-- ==== Sys2Proof/Word.lean ====
section
/-! DEFINITION. The plain types of the model: a byte of a message, a colour, an audio sample, and a table of a fixed number of like things. -/

namespace Sys2Proof

/-- One byte of a link message (00 Conventions, Messages). -/
abbrev Byte := BitVec 8

/-- One colour component, 0 to 1023 (00 Conventions, Pictures). -/
abbrev Component := BitVec 10

/-- A colour or a pixel: red, green and blue, each 0 to 1023 (00 Conventions, Pictures). -/
structure Colour where
  r : Component
  g : Component
  b : Component
deriving DecidableEq, Repr

/-- Black is (0, 0, 0). -/
def Colour.black : Colour := ⟨0, 0, 0⟩

/-- A signed 24-bit audio sample as it arrives (00 Conventions, Audio). -/
abbrev Sample := BitVec 24

/-- One stereo sample (00 Conventions, Audio). -/
structure Stereo where
  left  : Sample
  right : Sample
deriving DecidableEq, Repr

/-- A fixed number of like things, numbered from 0: entry `i` stands for the thing the spec numbers `i + 1`. -/
structure Table (α : Type) (n : Nat) where
  items : List α
  size  : items.length = n
deriving DecidableEq, Repr

def Table.get {α : Type} {n : Nat} (t : Table α n) (i : Fin n) : α :=
  t.items[i.val]'(by rw [t.size]; exact i.isLt)

def Table.set {α : Type} {n : Nat} (t : Table α n) (i : Fin n) (x : α) : Table α n :=
  ⟨t.items.set i x, by simp [t.size]⟩

def Table.map {α β : Type} {n : Nat} (f : α → β) (t : Table α n) : Table β n :=
  ⟨t.items.map f, by simp [t.size]⟩

/-- `n` copies of one value. -/
def Table.fill {α : Type} (n : Nat) (x : α) : Table α n :=
  ⟨List.replicate n x, by simp⟩

/-- The table whose entry `i` is `f i`. -/
def Table.tab {α : Type} (n : Nat) (f : Fin n → α) : Table α n :=
  ⟨List.ofFn f, by simp⟩

def Table.modify {α : Type} {n : Nat} (t : Table α n) (i : Fin n) (f : α → α) : Table α n :=
  t.set i (f (t.get i))

/-- The lowest-numbered entry that meets `p`. -/
def Table.lowest {α : Type} {n : Nat} (t : Table α n) (p : α → Bool) : Option (Fin n) :=
  (List.finRange n).find? fun i => p (t.get i)

/-! Reading a table after writing it. -/

theorem Table.ext_get {α : Type} {n : Nat} {s t : Table α n} (h : ∀ i, s.get i = t.get i) : s = t := by
  obtain ⟨xs, hx⟩ := s
  obtain ⟨ys, hy⟩ := t
  have : xs = ys := by
    apply List.ext_getElem (by omega)
    intro i h1 h2
    exact h ⟨i, by omega⟩
  subst this
  rfl

@[simp] theorem Table.get_set_self {α : Type} {n : Nat} (t : Table α n) (i : Fin n) (x : α) :
    (t.set i x).get i = x := by
  simp [Table.get, Table.set]

theorem Table.get_set_of_ne {α : Type} {n : Nat} (t : Table α n) {i j : Fin n} (x : α) (h : i ≠ j) :
    (t.set i x).get j = t.get j := by
  have : (i : Nat) ≠ j := fun e => h (Fin.ext e)
  simp [Table.get, Table.set, List.getElem_set_ne this]

theorem Table.get_set {α : Type} {n : Nat} (t : Table α n) (i j : Fin n) (x : α) :
    (t.set i x).get j = if i = j then x else t.get j := by
  split
  · next h => subst h; simp
  · next h => exact t.get_set_of_ne x h

/-- Writing back what is there changes nothing. -/
@[simp] theorem Table.set_get_self {α : Type} {n : Nat} (t : Table α n) (i : Fin n) : t.set i (t.get i) = t :=
  Table.ext_get fun j => by
    rw [Table.get_set]
    split
    · next h => rw [h]
    · rfl

@[simp] theorem Table.get_map {α β : Type} {n : Nat} (f : α → β) (t : Table α n) (i : Fin n) :
    (t.map f).get i = f (t.get i) := by
  simp [Table.get, Table.map]

@[simp] theorem Table.get_fill {α : Type} {n : Nat} (x : α) (i : Fin n) : (Table.fill n x).get i = x := by
  simp [Table.get, Table.fill]

@[simp] theorem Table.get_tab {α : Type} {n : Nat} (f : Fin n → α) (i : Fin n) : (Table.tab n f).get i = f i := by
  simp [Table.get, Table.tab]

@[simp] theorem Table.get_modify_self {α : Type} {n : Nat} (t : Table α n) (i : Fin n) (f : α → α) :
    (t.modify i f).get i = f (t.get i) := by
  simp [Table.modify]

theorem Table.get_modify_of_ne {α : Type} {n : Nat} (t : Table α n) {i j : Fin n} (f : α → α) (h : i ≠ j) :
    (t.modify i f).get j = t.get j := by
  simp [Table.modify, Table.get_set_of_ne t _ h]

theorem Table.get_modify {α : Type} {n : Nat} (t : Table α n) (i j : Fin n) (f : α → α) :
    (t.modify i f).get j = if i = j then f (t.get j) else t.get j := by
  unfold Table.modify
  rw [Table.get_set]
  split
  · next h => subst h; rfl
  · rfl

end Sys2Proof
end

