-- ==== Sys2Proof/Config.lean ====
section
/-! DEFINITION. What the part fixes: counts, periods and ranges the spec gives as numbers. The spec calls no result undefined, so there is no free value here. -/

namespace Sys2Proof.Config

/-- A millisecond in periods of the 27 MHz reference (00 Conventions, Time). -/
def msPeriods : Nat := 27000

/-- A one-second tick is every 1000th millisecond tick (00 Conventions, Time). -/
def secondPeriods : Nat := 27000000

/-- The canvas, 1920 × 1080 (00 Conventions, Pictures). -/
def canvasW : Nat := 1920
def canvasH : Nat := 1080

/-- The longest wait from the end of power-on to a compositor's first boundary (R57). -/
def startLimit : Nat := 450000

/-- Seconds in a pin minute, and the hold's milliseconds (R126, R123). -/
def pinMinute : Nat := 60
def holdMs : Nat := 1000

/-- The queues of a link (R154, R157). -/
def fifoBytes : Nat := 32
def editPlaces : Nat := 8
def replyPlaces : Nat := 4

/-- A break is a line held at zero for 25 ms (R158). -/
def breakPeriods : Nat := 675000

/-- Audio: samples of a block, of an input FIFO and of a delay line (R147, R98, R138). -/
def blockSamples : Nat := 480
def audioFifoSamples : Nat := 4096
def delaySamples : Nat := 9600

/-- The largest and the smallest 24-bit sample, and full scale (00 Conventions, Audio). -/
def sampleMax : Int := 8388607
def sampleMin : Int := -8388608

/-- Valid frame periods, 16.0 to 42.0 ms, and active areas (R82). -/
def periodMin : Nat := 432000
def periodMax : Nat := 1134000
def widthMin : Nat := 640
def widthMax : Nat := 1920
def heightMin : Nat := 360
def heightMax : Nat := 1080

/-- Acquisition time of the monitor in milliseconds (R84). -/
def acquisitionMs : Nat := 50

/-- The part code and the counts IDENTITY carries (R167). -/
def partCode : Nat := 1612
def inputCount : Nat := 12
def screenCount : Nat := 16
def zoneCount : Nat := 4
def scalerCount : Nat := 20

end Sys2Proof.Config
end

