-- ==== Sys2Proof/Syntax.lean ====
section
/-! DEFINITION. The commands of the part: one constructor per row of spec/opcode_table.json. -/

namespace Sys2Proof

/-- The two control links (R154). -/
inductive Link where
  | a | b
deriving DecidableEq, Repr

def Link.other : Link → Link
  | .a => .b
  | .b => .a

/-- The RANK strap (R122, R167). -/
inductive Rank where
  | equal | aSenior | bSenior
deriving DecidableEq, Repr

/-- A RATE strap (R155). -/
inductive LineRate where
  | baud115200 | baud460800
deriving DecidableEq, Repr

/-- Screen `s` of the spec is `s - 1` here; so for inputs, zones, scalers, slots and window numbers (log 28). -/
abbrev ScreenIx := Fin 16
abbrev InputIx := Fin 12
abbrev ZoneIx := Fin 4
abbrev ScalerIx := Fin 20
abbrev SlotIx := Fin 4
/-- W0 to W3 of a screen. -/
abbrev WindowIx := Fin 4
/-- W1 to W3 of a screen: inset `k` is `k - 1` here. -/
abbrev InsetIx := Fin 3
/-- A window number less one. -/
abbrev WallWindow := Fin 64

/-- The commands, in the order of spec/opcode_table.json.
The first group of requests carries the link the frame came on, its tag, and its body bytes from offset 2 on. -/
inductive Instr where
  /-- PORN, with the levels read from the RANK, RATE-A and RATE-B straps (R57, R154). -/
  | powerOn (rank : Rank) (rateA rateB : LineRate)
  | setMain (l : Link) (tag : Byte) (fields : List Byte)
  | setInset (l : Link) (tag : Byte) (fields : List Byte)
  | clearInset (l : Link) (tag : Byte) (fields : List Byte)
  | clearScreen (l : Link) (tag : Byte) (fields : List Byte)
  | swap (l : Link) (tag : Byte) (fields : List Byte)
  | setScreen (l : Link) (tag : Byte) (fields : List Byte)
  | group (l : Link) (tag : Byte) (fields : List Byte)
  | pin (l : Link) (tag : Byte) (fields : List Byte)
  | unpin (l : Link) (tag : Byte) (fields : List Byte)
  | setInput (l : Link) (tag : Byte) (fields : List Byte)
  | setZone (l : Link) (tag : Byte) (fields : List Byte)
  | snapshotCounters (l : Link) (tag : Byte) (fields : List Byte)
  | readScreen (l : Link) (tag : Byte) (fields : List Byte)
  | readWindow (l : Link) (tag : Byte) (fields : List Byte)
  | readInput (l : Link) (tag : Byte) (fields : List Byte)
  | readZone (l : Link) (tag : Byte) (fields : List Byte)
  | readPool (l : Link) (tag : Byte) (fields : List Byte)
  | readCounters (l : Link) (tag : Byte) (fields : List Byte)
  | readLink (l : Link) (tag : Byte) (fields : List Byte)
  | identify (l : Link) (tag : Byte) (fields : List Byte)
  | takeEvents (l : Link) (tag : Byte) (fields : List Byte)
  | setEvents (l : Link) (tag : Byte) (fields : List Byte)
  | wallReset (l : Link) (tag : Byte) (fields : List Byte)
  | linkReset (l : Link) (tag : Byte) (fields : List Byte)
  /-- A frame whose kind byte names no request kind (R163). -/
  | unknownKind (l : Link) (kind tag : Byte) (fields : List Byte)
  /-- The applications: alternation chooses the link, so they have no operand (R117). -/
  | applySetMain
  | applySetInset
  | applyClearInset
  | applyClearScreen
  | applySwap
  | applySetScreen
  | applyGroup
  | applyPin
  | applyUnpin
  | applySetInput
  | applySetZone
  | applySnapshotCounters
  | answerEvent (l : Link)
  | oneSecondTick
  | pinLapsed (scr : ScreenIx)
  | holdExpired (scr : ScreenIx)
  /-- A character completes on a receive line, `wait` reference periods after the event before it; `stop` is its stop bit (R157, R158). -/
  | arrival (l : Link) (wait : Nat) (byte : Byte) (stop : Bool)
  | interByteTimeout (l : Link)
  /-- The receive line has been at zero for 25 ms: the zero of the last character with a zero stop bit, or else one that begins at the event before (R158). -/
  | lineBreak (l : Link)
  | transmissionEnd (l : Link)
  /-- A frame start, `wait` reference periods after the event before it (R81). -/
  | frameStart (i : InputIx) (wait : Nat)
  /-- The pixels of one active line, from column 0 on; its width is their number (R81). -/
  | activeLine (i : InputIx) (pixels : List Colour)
  /-- A frame end, with the embedded audio the frame carried, or none (R98). -/
  | frameEnd (i : InputIx) (audio : Option (List Stereo))
  | acquisitionTimerExpiry (i : InputIx)
  | missIntervalExpiry (i : InputIx)
  | slateHoldExpiry (i : InputIx)
  /-- One 48 kHz period, with the sample of AN (R99, R142). -/
  | samplePeriod (an : Sample)
  | blockJudgement
  | boundary (scr : ScreenIx)
deriving DecidableEq, Repr

end Sys2Proof
end

