-- ==== Sys2Proof/WellFormed.lean ====
section
/-! DEFINITION. Which commands can come about at all: what a frame on the line can carry (R159) and what an active line is (R81). -/

namespace Sys2Proof

/-- The request codes of Table 11-1 (R178). -/
def isRequestCode (k : Byte) : Bool :=
  (0x10 ≤ k && k ≤ 0x1B) || (0x20 ≤ k && k ≤ 0x26) || (0x30 ≤ k && k ≤ 0x34)

/-- A frame on the receive line has 2 to 128 body bytes (R159): kind, tag and at most 126 more. -/
def fieldsFit (fields : List Byte) : Bool := fields.length ≤ 126

/-- A command that the outside world can bring about. `exec` does not ask: it answers for every command (log 25). -/
def Instr.wellFormed : Instr → Bool
  | .powerOn _ _ _ => true
  | .setMain _ _ f => fieldsFit f
  | .setInset _ _ f => fieldsFit f
  | .clearInset _ _ f => fieldsFit f
  | .clearScreen _ _ f => fieldsFit f
  | .swap _ _ f => fieldsFit f
  | .setScreen _ _ f => fieldsFit f
  | .group _ _ f => fieldsFit f
  | .pin _ _ f => fieldsFit f
  | .unpin _ _ f => fieldsFit f
  | .setInput _ _ f => fieldsFit f
  | .setZone _ _ f => fieldsFit f
  | .snapshotCounters _ _ f => fieldsFit f
  | .readScreen _ _ f => fieldsFit f
  | .readWindow _ _ f => fieldsFit f
  | .readInput _ _ f => fieldsFit f
  | .readZone _ _ f => fieldsFit f
  | .readPool _ _ f => fieldsFit f
  | .readCounters _ _ f => fieldsFit f
  | .readLink _ _ f => fieldsFit f
  | .identify _ _ f => fieldsFit f
  | .takeEvents _ _ f => fieldsFit f
  | .setEvents _ _ f => fieldsFit f
  | .wallReset _ _ f => fieldsFit f
  | .linkReset _ _ f => fieldsFit f
  | .unknownKind _ k _ f => fieldsFit f && !isRequestCode k
  | .applySetMain => true
  | .applySetInset => true
  | .applyClearInset => true
  | .applyClearScreen => true
  | .applySwap => true
  | .applySetScreen => true
  | .applyGroup => true
  | .applyPin => true
  | .applyUnpin => true
  | .applySetInput => true
  | .applySetZone => true
  | .applySnapshotCounters => true
  | .answerEvent _ => true
  | .oneSecondTick => true
  | .pinLapsed _ => true
  | .holdExpired _ => true
  | .arrival _ _ _ _ => true
  | .interByteTimeout _ => true
  | .lineBreak _ => true
  | .transmissionEnd _ => true
  | .frameStart _ _ => true
  | .activeLine _ px => !px.isEmpty
  | .frameEnd _ _ => true
  | .acquisitionTimerExpiry _ => true
  | .missIntervalExpiry _ => true
  | .slateHoldExpiry _ => true
  | .samplePeriod _ => true
  | .blockJudgement => true
  | .boundary _ => true

end Sys2Proof
end

