-- ==== Sys2Proof/Decode.lean ====
section
/-! DEFINITION. The command a table word spells. The rows of spec/opcode_table.json give no bits, so no word spells a command; the bytes of the links are read by the parser (Machine/Parser.lean) and by Machine/Operands.lean. -/

namespace Sys2Proof

/-- No row of the table gives bits. -/
def decodeTableWord (_nbits _w : Nat) : Option Instr := none

end Sys2Proof
end

