-- ==== Sys2Proof/Machine/State.lean ====
section
/-! DEFINITION. Everything the spec gives the part to hold, as plain data, and its value after power-on. -/

namespace Sys2Proof.Machine

/-- The spec names no event at which the part stops, so there is no fault: no command raises one. -/
inductive Fault where
deriving DecidableEq, Repr

/-- Raised only by an arm of `exec` that has no meaning yet; no arm does (safe). -/
inductive Refusal where
  | notModelled (mnemonic : String)
deriving DecidableEq, Repr

/-! ## The scene (R1 to R5, R10) -/

inductive ScreenClass where
  | feature | ambient | economy
deriving DecidableEq, Repr

inductive Rate where
  | hz50 | hz59_94 | hz60
deriving DecidableEq, Repr

inductive Pattern where
  | none | bars | solid | idCard | ramp
deriving DecidableEq, Repr

/-- The five settings of a screen (R2). -/
structure Settings where
  cls        : ScreenClass
  rate       : Rate
  standby    : Bool
  pattern    : Pattern
  background : Colour
deriving DecidableEq, Repr

/-- The four crop margins (R3). -/
structure Crop where
  cl : Nat
  cr : Nat
  ct : Nat
  cb : Nat
deriving DecidableEq, Repr

/-- The main window request (R3). -/
structure MainRequest where
  source : Option InputIx
  crop   : Crop
deriving DecidableEq, Repr

/-- An inset request (R4). -/
structure InsetRequest where
  source  : Option InputIx
  crop    : Crop
  x       : Int
  y       : Int
  w       : Nat
  h       : Nat
  opacity : Nat
  border  : Nat
  colour  : Colour
deriving DecidableEq, Repr

/-- A screen record, Staged (R1) or Live (R10). -/
structure ScreenRecord where
  settings : Settings
  main     : MainRequest
  insets   : Table InsetRequest 3
deriving DecidableEq, Repr

def Crop.zero : Crop := ⟨0, 0, 0, 0⟩

def InsetRequest.powerOn : InsetRequest :=
  { source := none, crop := .zero, x := 0, y := 0, w := 480, h := 270, opacity := 256, border := 0, colour := .black }

/-- The power-on values of R2, R3 and R4. -/
def ScreenRecord.powerOn : ScreenRecord :=
  { settings := { cls := .ambient, rate := .hz60, standby := false, pattern := .none, background := .black }
    main := { source := none, crop := .zero }
    insets := Table.fill 3 .powerOn }

/-! ## Compositors (R10 to R12, R57) -/

/-- The service state of a window (R12, R39). -/
inductive Service where
  | off | offscreen | exact | scaled | waiting | granted | economy
deriving DecidableEq, Repr

inductive RunState where
  | active | standby
deriving DecidableEq, Repr

structure Rect where
  x : Int
  y : Int
  w : Nat
  h : Nat
deriving DecidableEq, Repr

def Rect.zero : Rect := ⟨0, 0, 0, 0⟩

/-- A Live plan (R12). -/
structure Plan where
  service     : Service
  source      : Option InputIx
  ws          : Nat
  hs          : Nat
  cl          : Nat
  ct          : Nat
  wc          : Nat
  hc          : Nat
  cropIgnored : Bool
  sh          : Nat
  sv          : Nat
  p           : Rect
  v           : Rect
  ph0         : Nat
  pv0         : Nat
  d           : Nat
  slot        : Option SlotIx
  scaler      : Option ScalerIx
deriving DecidableEq, Repr

/-- The OFF plan (R12, R18). -/
def Plan.off : Plan :=
  { service := .off, source := none, ws := 0, hs := 0, cl := 0, ct := 0, wc := 0, hc := 0, cropIgnored := false
    sh := 0, sv := 0, p := .zero, v := .zero, ph0 := 0, pv0 := 0, d := 0, slot := none, scaler := none }

/-- Whether a window's source is shown as picture, or as fill with the colour the commit read (R67, R72). -/
inductive Shown where
  | picture
  | fill (c : Colour)
deriving DecidableEq, Repr

/-- The output timing of a screen (R57, R59). -/
inductive Timing where
  /-- After power-on, before the first boundary, which comes within `left` reference periods (R57). -/
  | starting (left : Nat)
  /-- A frame in progress: its period, the time remaining, and whether it is a lead-in frame (R59, R78). -/
  | running (period left : Nat) (leadIn : Bool)
  /-- STANDBY: no frame. -/
  | stopped
deriving DecidableEq, Repr

structure Compositor where
  live   : ScreenRecord
  run    : RunState
  plans  : Table Plan 4
  shown  : Table Shown 4
  timing : Timing
deriving DecidableEq, Repr

def Compositor.powerOn : Compositor :=
  { live := .powerOn, run := .active, plans := Table.fill 4 .off, shown := Table.fill 4 .picture
    timing := .starting Config.startLimit }

/-! ## Scaler Pool (R38, R40, R42) -/

/-- A scaler record; FREE has window number 0 (R38). -/
inductive Scaler where
  | free
  | granted (w : WallWindow)
  | active (w : WallWindow)
deriving DecidableEq, Repr

structure Pool where
  scalers : Table Scaler 20
  waiting : List WallWindow
  feature : List WallWindow
  ambient : List WallWindow
deriving DecidableEq, Repr

def Pool.initial : Pool := { scalers := Table.fill 20 .free, waiting := [], feature := [], ambient := [] }

/-! ## Input front ends (R80) -/

inductive MonitorState where
  | lost | acquiring | present
deriving DecidableEq, Repr

inductive Criterion where
  | quick | steady
deriving DecidableEq, Repr

/-- A frame format (R80). -/
structure Format where
  width  : Nat
  height : Nat
  period : Nat
deriving DecidableEq, Repr

/-- The frame being received (R80, R81). -/
structure FrameInProgress where
  /-- Reading of the reference clock at the frame start. -/
  start          : Nat
  period         : Option Nat
  firstWidth     : Option Nat
  lines          : Nat
  lineError      : Bool
  /-- The frame started while the monitor was PRESENT (R98). -/
  startedPresent : Bool
  /-- The FILLING slot the frame is written into, if any (R88, R89). -/
  slot           : Option SlotIx
deriving DecidableEq, Repr

inductive SlateMode where
  | fill | hold
deriving DecidableEq, Repr

inductive SlateState where
  | idle | holding | fill
deriving DecidableEq, Repr

/-- The slate's hold timer (R80, R90). -/
inductive HoldTimer where
  | stopped
  | running (ms : Nat)
  | indefinite
deriving DecidableEq, Repr

inductive CheckerState where
  | off | hunt | sync
deriving DecidableEq, Repr

inductive CounterKind where
  | lineErrors | invalidFrames | drops | checkErrors
deriving DecidableEq, Repr

inductive SnapshotMode where
  | auto | manual
deriving DecidableEq, Repr

structure FrontEnd where
  monitor      : MonitorState
  criterion    : Criterion
  candidate    : Option Format
  acqCount     : Nat
  latched      : Option Format
  missCount    : Nat
  /-- Milliseconds left; none is stopped. -/
  acqTimer     : Option Nat
  /-- Reference periods left of the miss interval; none is stopped. -/
  missLeft     : Option Nat
  frame        : Option FrameInProgress
  /-- Reading of the reference clock at the previous frame start. -/
  prevStart    : Option Nat
  captureCount : Nat
  slateMode    : SlateMode
  holdTime     : Nat
  fillColour   : Colour
  slate        : SlateState
  slateTimer   : HoldTimer
  /-- The looped screen; none is the connector (R92). -/
  loop         : Option ScreenIx
  checker      : CheckerState
  runCount     : Nat
  blockPos     : Nat
  blockErrors  : Nat
  counterKind  : CounterKind
  snapshotMode : SnapshotMode
  count        : Nat
  countOver    : Bool
  snap         : Nat
  snapOver     : Bool
  fifo         : List Stereo
  audioPresent : Bool
deriving DecidableEq, Repr

def FrontEnd.powerOn : FrontEnd :=
  { monitor := .lost, criterion := .steady, candidate := none, acqCount := 0, latched := none, missCount := 0
    acqTimer := none, missLeft := none, frame := none, prevStart := none, captureCount := 0
    slateMode := .fill, holdTime := 0, fillColour := .black, slate := .fill, slateTimer := .stopped
    loop := none, checker := .off, runCount := 0, blockPos := 0, blockErrors := 0
    counterKind := .drops, snapshotMode := .auto, count := 0, countOver := false, snap := 0, snapOver := false
    fifo := [], audioPresent := false }

/-! ## Frame Store (R102) -/

inductive SlotState where
  | free | filling | ready
deriving DecidableEq, Repr

structure Slot where
  state   : SlotState
  seq     : Nat
  width   : Nat
  height  : Nat
  readers : Nat
  /-- The lines written, row 0 first (R104). -/
  lines   : List (List Colour)
deriving DecidableEq, Repr

def Slot.free : Slot := { state := .free, seq := 0, width := 0, height := 0, readers := 0, lines := [] }

structure Ring where
  slots  : Table Slot 4
  newest : Option SlotIx
deriving DecidableEq, Repr

def Ring.powerOn : Ring := { slots := Table.fill 4 .free, newest := none }

/-! ## Audio zones and the announce detector (R138, R147) -/

inductive AudioSource where
  | input (i : InputIx)
  | an
deriving DecidableEq, Repr

structure Contribution where
  source : AudioSource
  gain   : Nat
deriving DecidableEq, Repr

inductive ZoneMode where
  | off | follow | mix
deriving DecidableEq, Repr

structure ZoneRecord where
  mode          : ZoneMode
  follow        : ScreenIx
  contributions : List Contribution
  level         : Nat
  delay         : Nat
  duckEnable    : Bool
  duckGain      : Nat
  announceGain  : Nat
deriving DecidableEq, Repr

def ZoneRecord.powerOn : ZoneRecord :=
  { mode := .off, follow := 0, contributions := [], level := 1024, delay := 0, duckEnable := false
    duckGain := 256, announceGain := 1024 }

/-- A zone mixer. The delay line lists the samples written, newest first, and reads 0 beyond its end (R146, log 21). -/
structure Zone where
  record    : ZoneRecord
  line      : List (Int × Int)
  curMark   : Bool
  prevMark  : Bool
  clipCount : Nat
  /-- The sample at Z-OUT. -/
  out       : Int × Int
deriving DecidableEq, Repr

def Zone.powerOn : Zone :=
  { record := .powerOn, line := [], curMark := false, prevMark := false, clipCount := 0, out := (0, 0) }

inductive DetectorState where
  | idle | active
deriving DecidableEq, Repr

/-- The detector's three settings (R147). -/
structure DetectorSettings where
  threshold : Nat
  nd        : Nat
  nc        : Nat
deriving DecidableEq, Repr

structure Detector where
  state    : DetectorState
  run      : Nat
  peak     : Nat
  pos      : Nat
  /-- A block has ended and waits for its judgement (R148, log 10). -/
  due      : Bool
  settings : DetectorSettings
deriving DecidableEq, Repr

def Detector.powerOn : Detector :=
  { state := .idle, run := 0, peak := 0, pos := 0, due := false, settings := { threshold := 8388607, nd := 2, nc := 50 } }

/-! ## Edits and queries as the links queue them (R119 to R132, R133) -/

/-- The change a GROUP makes on each of its screens (R129). -/
inductive GroupChange where
  | main (req : MainRequest)
  | standby (on : Bool)
  | pattern (p : Pattern)
deriving DecidableEq, Repr

/-- The settings a SET_INPUT writes (R131). -/
structure InputSettings where
  criterion    : Criterion
  slateMode    : SlateMode
  holdTime     : Nat
  fillColour   : Colour
  loop         : Option ScreenIx
  checkerOn    : Bool
  counterKind  : CounterKind
  snapshotMode : SnapshotMode
deriving DecidableEq, Repr

/-- A queued edit, with its fields clamped and its HOLD flag (R164). -/
inductive Edit where
  | setMain (hold : Bool) (s : ScreenIx) (req : MainRequest)
  | setInset (hold : Bool) (s : ScreenIx) (k : InsetIx) (req : InsetRequest)
  | clearInset (hold : Bool) (s : ScreenIx) (k : InsetIx)
  | clearScreen (hold : Bool) (s : ScreenIx)
  | swap (hold : Bool) (s : ScreenIx) (k : InsetIx)
  | setScreen (hold : Bool) (s : ScreenIx) (settings : Settings)
  | group (base limit : ScreenIx) (invert : Bool) (change : GroupChange)
  | pin (s : ScreenIx) (minutes : Nat)
  | unpin (s : ScreenIx)
  | setInput (i : InputIx) (settings : InputSettings)
  | setZone (z : ZoneIx) (record : ZoneRecord) (detector : DetectorSettings)
  | snapshotCounters (inputs : BitVec 12)
deriving DecidableEq, Repr

inductive Query where
  | screen (s : ScreenIx)
  | window (w : WallWindow)
  | input (i : InputIx)
  | zone (z : ZoneIx)
  | pool
  | counters
  | link
deriving DecidableEq, Repr

/-- The query slot (R133). An ANSWERED slot holds the body of the RESULT. -/
inductive QuerySlot where
  | empty
  | waiting (tag : Byte) (q : Query)
  | answered (result : List Byte)
deriving DecidableEq, Repr

/-! ## Links (R154) -/

/-- One place of the receive FIFO: a byte with its late mark, or a cut (R157). -/
inductive RxItem where
  | byte (b : Byte) (late : Bool)
  | cut
deriving DecidableEq, Repr

/-- The parser's state and the frame being assembled (R159, R162). -/
inductive Phase where
  | hunt
  | length
  | body (len : Nat) (got : List Byte) (sum : Byte)
  | check (len : Nat) (got : List Byte) (sum : Byte)
  | complete (body : List Byte)
deriving DecidableEq, Repr

structure Parser where
  phase  : Phase
  /-- Bytes of a discarded frame still to be taken again (R160). -/
  rescan : List Byte
deriving DecidableEq, Repr

/-- What has been seen of a zero on the receive line (R158, log 20). -/
inductive LineZero where
  /-- The last character had a one stop bit, or none has come. -/
  | none
  /-- The last character had a zero stop bit: its framing error is counted, and `edge` is the reading of the clock at the falling edge that began the zero its stop bit lies in. -/
  | framed (edge : Nat)
  /-- A break has been recognised, and no character has come since: the receiver waits for the line to return to one. -/
  | broken
deriving DecidableEq, Repr

/-- The event kinds in the order of Table 11-5. -/
inductive EventKind where
  | inputState | rasterChange | checkSync | counterOverflow | scalerWait | editRefused
  | pinTaken | pinLapsed | holdExpired | announce | audioClip | wallReset
deriving DecidableEq, Repr

inductive LossMode where
  | any | lossOnly
deriving DecidableEq, Repr

inductive StartMode where
  | any | startOnly
deriving DecidableEq, Repr

/-- Latches, index sets, enables and edge modes of a link (R172 to R174).
An index set has bit `k` for the thing the spec numbers `k + 1`. -/
structure EventState where
  latches      : Table Bool 12
  sets         : Table (BitVec 16) 12
  enables      : Table Bool 12
  inputMode    : LossMode
  checkMode    : LossMode
  announceMode : StartMode
deriving DecidableEq, Repr

def EventState.powerOn : EventState :=
  { latches := Table.fill 12 false, sets := Table.fill 12 0, enables := Table.fill 12 false
    inputMode := .any, checkMode := .any, announceMode := .any }

inductive RefusalReason where
  | pinned | held
deriving DecidableEq, Repr

/-- The refusal record: the refused edit's kind code, its screen and the reason (R125). -/
structure RefusalRecord where
  kind   : Byte
  screen : ScreenIx
  reason : RefusalReason
deriving DecidableEq, Repr

/-- The six error counts (R168). -/
structure ErrorCounts where
  badCheck : Nat
  length   : Nat
  timeout  : Nat
  overrun  : Nat
  framing  : Nat
  breaks   : Nat
deriving DecidableEq, Repr

def ErrorCounts.zero : ErrorCounts := ⟨0, 0, 0, 0, 0, 0⟩

structure LinkState where
  rate        : LineRate
  fifo        : List RxItem
  parser      : Parser
  /-- Reading of the reference clock at the last arrival (R157, R161). -/
  lastArrival : Option Nat
  zero        : LineZero
  edits       : List Edit
  /-- The number of edits ahead of the barrier (R133). -/
  barrier     : Option Nat
  query       : QuerySlot
  /-- The bodies of the reply frames; the head one is in transmission (R156, R166). -/
  replies     : List (List Byte)
  /-- Time until the transmitter has sent a character still being sent and all the frames of the queue, in 1/16 reference period (R155, R156, log 18). -/
  txLeft      : Nat
  events      : EventState
  record      : Option RefusalRecord
  refusals    : Nat
  errors      : ErrorCounts
deriving DecidableEq, Repr

def Parser.initial : Parser := { phase := .hunt, rescan := [] }

def LinkState.powerOn (rate : LineRate) : LinkState :=
  { rate := rate, fifo := [], parser := .initial, lastArrival := none, zero := .none, edits := [], barrier := none
    query := .empty, replies := [], txLeft := 0, events := .powerOn, record := none, refusals := 0, errors := .zero }

/-! ## Scene Editor (R114) -/

structure Pin where
  owner : Option Link
  /-- Seconds; 0 means no lapse. -/
  lapse : Nat
deriving DecidableEq, Repr

def Pin.clear : Pin := { owner := none, lapse := 0 }

structure Hold where
  holder : Option Link
  ms     : Nat
deriving DecidableEq, Repr

def Hold.clear : Hold := { holder := none, ms := 0 }

/-! ## The whole part -/

structure State where
  /-- Reference periods since power-on (log 1). -/
  clock    : Nat
  rank     : Rank
  staged   : Table ScreenRecord 16
  comps    : Table Compositor 16
  pool     : Pool
  fronts   : Table FrontEnd 12
  rings    : Table Ring 12
  marker   : Link
  pins     : Table Pin 16
  holds    : Table Hold 16
  zones    : Table Zone 4
  detector : Detector
  linkA    : LinkState
  linkB    : LinkState
  /-- The commands waiting, first in, first out. -/
  pending  : List Instr
deriving DecidableEq, Repr

/-- The part at the end of power-on, with the strap levels read there. -/
def State.afterPowerOn (rank : Rank) (rateA rateB : LineRate) (pending : List Instr) : State :=
  { clock := 0, rank := rank
    staged := Table.fill 16 .powerOn, comps := Table.fill 16 .powerOn, pool := .initial
    fronts := Table.fill 12 .powerOn, rings := Table.fill 12 .powerOn
    marker := .b, pins := Table.fill 16 .clear, holds := Table.fill 16 .clear
    zones := Table.fill 4 .powerOn, detector := .powerOn
    linkA := .powerOn rateA, linkB := .powerOn rateB, pending := pending }

/-- The part right after power-on; the straps read EQUAL and 115,200 baud (DESIGN CHOICE, log 4). -/
def State.reset : State := .afterPowerOn .equal .baud115200 .baud115200 []

end Sys2Proof.Machine
end

