-- ==== Sys2Proof/Machine/Ops.lean ====
section
/-! DEFINITION. The named operations on the parts of State that every family uses: access, counting, and the reply queue. -/

namespace Sys2Proof.Machine

/-! ## Access -/

def State.link (s : State) : Link → LinkState
  | .a => s.linkA
  | .b => s.linkB

def State.setLink (s : State) (l : Link) (x : LinkState) : State :=
  match l with
  | .a => { s with linkA := x }
  | .b => { s with linkB := x }

def State.modLink (s : State) (l : Link) (f : LinkState → LinkState) : State := s.setLink l (f (s.link l))

def State.setStaged (s : State) (scr : ScreenIx) (x : ScreenRecord) : State :=
  { s with staged := s.staged.set scr x }

def State.setComp (s : State) (scr : ScreenIx) (x : Compositor) : State :=
  { s with comps := s.comps.set scr x }

def State.modComp (s : State) (scr : ScreenIx) (f : Compositor → Compositor) : State :=
  s.setComp scr (f (s.comps.get scr))

def State.setFront (s : State) (i : InputIx) (x : FrontEnd) : State :=
  { s with fronts := s.fronts.set i x }

def State.modFront (s : State) (i : InputIx) (f : FrontEnd → FrontEnd) : State :=
  s.setFront i (f (s.fronts.get i))

def State.setRing (s : State) (i : InputIx) (x : Ring) : State :=
  { s with rings := s.rings.set i x }

def State.modRing (s : State) (i : InputIx) (f : Ring → Ring) : State := s.setRing i (f (s.rings.get i))

def State.setPool (s : State) (x : Pool) : State := { s with pool := x }

def State.setPin (s : State) (scr : ScreenIx) (x : Pin) : State := { s with pins := s.pins.set scr x }

def State.setHold (s : State) (scr : ScreenIx) (x : Hold) : State := { s with holds := s.holds.set scr x }

def State.setZone (s : State) (z : ZoneIx) (x : Zone) : State := { s with zones := s.zones.set z x }

def State.setDetector (s : State) (x : Detector) : State := { s with detector := x }

def State.setMarker (s : State) (l : Link) : State := { s with marker := l }

/-! ## Window numbers (R7) -/

/-- The window number, less one, of window `k` of screen `scr`. -/
def wallWindow (scr : ScreenIx) (k : WindowIx) : WallWindow := ⟨scr.val * 4 + k.val, by omega⟩

def screenOf (w : WallWindow) : ScreenIx := ⟨w.val / 4, by omega⟩

def windowOf (w : WallWindow) : WindowIx := ⟨w.val % 4, by omega⟩

def State.plan (s : State) (w : WallWindow) : Plan := (s.comps.get (screenOf w)).plans.get (windowOf w)

def State.setPlan (s : State) (w : WallWindow) (p : Plan) : State :=
  s.modComp (screenOf w) fun c => { c with plans := c.plans.set (windowOf w) p }

/-- The windows of a screen in order W0 to W3. -/
def windowsInOrder : List WindowIx := [0, 1, 2, 3]

/-! ## Counting -/

/-- A count that stays at its largest value (R96, R125, R145, R168). -/
def countUp (most n : Nat) : Nat := if n < most then n + 1 else most

/-! ## Rank (R122) -/

/-- Link `l` is senior to the other link. -/
def senior (r : Rank) (l : Link) : Bool :=
  match r, l with
  | .aSenior, .a => true
  | .bSenior, .b => true
  | _, _ => false

/-- Link `l` is junior to the other link. -/
def junior (r : Rank) (l : Link) : Bool := senior r l.other

/-! ## Times fixed by a setting -/

/-- The period of an output frame in reference periods (R59). -/
def Rate.period : Rate → Nat
  | .hz50 => 540000
  | .hz59_94 => 450450
  | .hz60 => 450000

/-- A character time in 1/16 reference period: 2343.75 or 585.9375 reference periods (R155). -/
def charUnits : LineRate → Nat
  | .baud115200 => 37500
  | .baud460800 => 9375

/-- Twenty character times in whole reference periods (R155). -/
def gapLimit : LineRate → Nat
  | .baud115200 => 46875
  | .baud460800 => 11718

/-- Half bit times in whole reference periods: 117.1875 or 29.296875 reference periods each (R155, log 20). -/
def halfBitPeriods (rate : LineRate) (n : Nat) : Nat :=
  match rate with
  | .baud115200 => n * 1875 / 16
  | .baud460800 => n * 1875 / 64

/-- The data bits of a character that are zero after its last one; they are sent least significant first (R155). -/
def closingZeros (b : Byte) : Nat := ((List.range 8).reverse.takeWhile fun k => !b.getLsbD k).length

/-- Half bit times that a line has been at zero at the middle of a zero stop bit: half of that bit, the data bits after the last one, and the start bit too where no data bit is one (R155, R158). -/
def zeroHalfBits (b : Byte) : Nat := if b = 0 then 19 else 2 * closingZeros b + 1

/-- Reference periods that a line has been at zero when a character with a zero stop bit arrives (R158, log 20). -/
def zeroPeriods (rate : LineRate) (b : Byte) : Nat := halfBitPeriods rate (zeroHalfBits b)

/-! ## The reply queue (R156, R166) -/

/-- The frame on the line for a body: sync, length, body and check byte (R156, R159, R179). -/
def envelope (body : List Byte) : List Byte :=
  let len : Byte := BitVec.ofNat 8 body.length
  let sum : Byte := body.foldl (· + ·) len
  [0x7E, len] ++ body ++ [-sum]

/-- A frame of `n` body bytes takes n + 3 characters (R156). -/
def frameUnits (rate : LineRate) (body : List Byte) : Nat := (body.length + 3) * charUnits rate

def LinkState.replyRoom (x : LinkState) : Bool := x.replies.length < Config.replyPlaces

/-- A frame enters the reply queue: it is sent after all that is still being sent, with no idle time between (R156, R166, R170). -/
def LinkState.enterReply (x : LinkState) (body : List Byte) : LinkState :=
  { x with replies := x.replies ++ [body], txLeft := x.txLeft + frameUnits x.rate body }

/-- The time that frames take on the line one after the other. -/
def framesUnits (rate : LineRate) (bodies : List (List Byte)) : Nat := (bodies.map (frameUnits rate)).sum

/-- What is left of the head frame: the rest of all that is being sent, less the frames behind it (R156). -/
def LinkState.headLeft (x : LinkState) : Nat := x.txLeft - framesUnits x.rate x.replies.tail

/-! ## The receive FIFO (R157) -/

def RxItem.isByte : RxItem → Bool
  | .byte _ _ => true
  | .cut => false

/-- The bytes held; a cut occupies no byte place (R157). -/
def fifoLevel (fifo : List RxItem) : Nat := fifo.countP RxItem.isByte

/-- A cut at the tail; further bytes lost join the same cut (R157). -/
def addCut (fifo : List RxItem) : List RxItem :=
  if fifo.getLast? = some .cut then fifo else fifo ++ [.cut]

end Sys2Proof.Machine
end

