-- ==== Sys2Proof/Machine/FrameStore.lean ====
section
/-! DEFINITION. The rings of the Frame Store: slot choice, lines, publication, abandonment and readers (R102 to R113). -/

namespace Sys2Proof.Machine

/-- The slot a frame start would be given: the lowest-numbered FREE one (R103). -/
def Ring.freeSlot (r : Ring) : Option SlotIx := r.slots.lowest fun x => x.state == .free

/-- A FREE slot starts receiving the frame of a sequence number (R103). -/
def Ring.fill (r : Ring) (n : SlotIx) (seq : Nat) : Ring :=
  { r with slots := r.slots.set n { Slot.free with state := .filling, seq := seq } }

/-- An active line is written into the FILLING slot (R104). -/
def Ring.writeLine (r : Ring) (n : SlotIx) (line : List Colour) : Ring :=
  { r with slots := r.slots.modify n fun x => { x with lines := x.lines ++ [line] } }

/-- A slot that no window reads and that is not newest-ready is FREE; the newest-ready slot stays READY (R104, R106, R107). -/
def Ring.freeIfUnread (r : Ring) (n : SlotIx) : Ring :=
  if (r.slots.get n).readers = 0 ∧ r.newest ≠ some n then { r with slots := r.slots.set n .free } else r

/-- The four parts of a publication (R104). -/
def Ring.publish (r : Ring) (n : SlotIx) (width height : Nat) : Ring :=
  let r1 : Ring :=
    { slots := r.slots.modify n fun x => { x with state := .ready, width := width, height := height }
      newest := some n }
  match r.newest with
  | some old => r1.freeIfUnread old
  | none => r1

/-- The FILLING slot of a frame that is not published becomes FREE, and its lines are discarded (R105). -/
def Ring.abandon (r : Ring) (n : SlotIx) : Ring := { r with slots := r.slots.set n .free }

/-- One reader gives the slot up (R107). -/
def Ring.giveUp (r : Ring) (n : SlotIx) : Ring :=
  Ring.freeIfUnread { r with slots := r.slots.modify n fun x => { x with readers := x.readers - 1 } } n

/-- One window takes the slot (R107). -/
def Ring.take (r : Ring) (n : SlotIx) : Ring :=
  { r with slots := r.slots.modify n fun x => { x with readers := x.readers + 1 } }

/-- A wall reset: every reader is gone, and a READY slot that is not newest-ready becomes FREE (R102). -/
def Ring.dropReaders (r : Ring) : Ring :=
  { r with
    slots := Table.tab 4 fun n =>
      let x := r.slots.get n
      if x.state = .ready ∧ r.newest ≠ some n then Slot.free else { x with readers := 0 } }

/-- The raster of the newest-ready slot, the planning raster of a source shown as picture (R19, R106). -/
def Ring.newestRaster (r : Ring) : Option (Nat × Nat) :=
  r.newest.map fun n => ((r.slots.get n).width, (r.slots.get n).height)

end Sys2Proof.Machine
end

