-- ==== Sys2Proof/Machine/Planner.lean ====
section
/-! DEFINITION. The planner: crop, steps, placements, the service decision and coarse service of one window (R18 to R32). -/

namespace Sys2Proof.Machine

/-- What the planner is given of a window request: source, crop and rectangle (R18). -/
structure WindowRequest where
  source : Option InputIx
  crop   : Crop
  rect   : Rect
deriving DecidableEq, Repr

/-- The whole canvas, the rectangle of every main window (R3, R27). -/
def canvas : Rect := ⟨0, 0, Config.canvasW, Config.canvasH⟩

def InsetRequest.rect (r : InsetRequest) : Rect := ⟨r.x, r.y, r.w, r.h⟩

/-- The inset a window index names; W0 names none. -/
def insetOf (k : WindowIx) : Option InsetIx := if h : 1 ≤ k.val then some ⟨k.val - 1, by omega⟩ else none

/-- The request of window `k` as the planner sees it (R18). -/
def ScreenRecord.window (r : ScreenRecord) (k : WindowIx) : WindowRequest :=
  match insetOf k with
  | none => { source := r.main.source, crop := r.main.crop, rect := canvas }
  | some j => { source := (r.insets.get j).source, crop := (r.insets.get j).crop, rect := (r.insets.get j).rect }

/-! ## Effective crop (R22) -/

structure AxisCrop where
  first   : Nat
  size    : Nat
  ignored : Bool
deriving DecidableEq, Repr

/-- Margins that leave fewer than 16 pixels are ignored on that axis. -/
def effectiveCrop (raster near far : Nat) : AxisCrop :=
  if raster < near + far + 16 then { first := 0, size := raster, ignored := true }
  else { first := near, size := raster - near - far, ignored := false }

/-! ## Steps (R23 to R25) -/

/-- The raw step of one axis, in 1/4096 source pixel. -/
def rawStep (crop rect : Nat) : Nat := (crop * 4096 + rect / 2) / rect

/-- The clamped step. -/
def step1 (crop rect : Nat) : Nat := max 512 (min 32768 (rawStep crop rect))

/-! ## Placements (R24 to R29, R31) -/

/-- One axis of a placement: picture position and size, visible span, and start phase. -/
structure AxisPlacement where
  p     : Int
  size  : Nat
  v0    : Int
  v1    : Int
  phase : Nat
deriving DecidableEq, Repr

/-- Clip one axis of a picture to the canvas and find its start phase (R28, R29). -/
def clipAxis (limit : Nat) (p : Int) (size base stp : Nat) : AxisPlacement :=
  let v0 := max p 0
  { p := p, size := size, v0 := v0, v1 := min (p + size) limit, phase := base * 4096 + (v0 - p).toNat * stp }

/-- The scaled placement of one axis: a reduction beyond 8 shows a central span, an enlargement beyond 8 leaves matte (R24, R25). -/
def scaledAxis (limit : Nat) (first crop : Nat) (pos : Int) (rect : Nat) : AxisPlacement :=
  if 32768 < rawStep crop rect then
    clipAxis limit pos rect (first + (crop - 8 * rect) / 2) 32768
  else if rawStep crop rect < 512 then
    clipAxis limit (pos + ((rect - 8 * crop) / 2 : Nat)) (8 * crop) first 512
  else
    clipAxis limit pos rect first (rawStep crop rect)

/-- The coarse factor: the smallest of 1, 2, 4 and 8 that fits both axes, else 8 (R31). -/
def coarseFactor (wc hc w h : Nat) : Nat :=
  if wc ≤ w ∧ hc ≤ h then 1
  else if wc / 2 ≤ w ∧ hc / 2 ≤ h then 2
  else if wc / 4 ≤ w ∧ hc / 4 ≤ h then 4
  else 8

/-- The coarse placement of one axis (R31). -/
def coarseAxis (limit : Nat) (first crop : Nat) (pos : Int) (rect d : Nat) : AxisPlacement :=
  let size := min (crop / d) rect
  let base := if crop / d ≤ rect then first else first + (crop - 8 * rect) / 2
  clipAxis limit (pos + ((rect - size) / 2 : Nat)) size base (d * 4096)

/-- A placement of both axes. -/
structure Placement where
  x : AxisPlacement
  y : AxisPlacement
deriving DecidableEq, Repr

/-- No pixel of the picture is on the canvas (R28). -/
def Placement.empty (q : Placement) : Bool := q.x.v1 ≤ q.x.v0 || q.y.v1 ≤ q.y.v0

def Placement.picture (q : Placement) : Rect := ⟨q.x.p, q.y.p, q.x.size, q.y.size⟩

/-- The visible rectangle; an empty one has width and height 0 (R28, R31, log 12). -/
def Placement.visible (q : Placement) : Rect :=
  if q.empty then ⟨q.x.v0, q.y.v0, 0, 0⟩
  else ⟨q.x.v0, q.y.v0, (q.x.v1 - q.x.v0).toNat, (q.y.v1 - q.y.v0).toNat⟩

/-- The scaled placement from an effective crop and a rectangle (R26 to R29). -/
def scaledPlacement (cl wc ct hc : Nat) (r : Rect) : Placement :=
  { x := scaledAxis Config.canvasW cl wc r.x r.w, y := scaledAxis Config.canvasH ct hc r.y r.h }

/-- The coarse placement (R31). -/
def coarsePlacement (cl wc ct hc : Nat) (r : Rect) : Placement :=
  let d := coarseFactor wc hc r.w r.h
  { x := coarseAxis Config.canvasW cl wc r.x r.w d, y := coarseAxis Config.canvasH ct hc r.y r.h d }

/-! ## The service decision (R28, R30) -/

/-- A step the box decimator serves (R30). -/
def exactStep (n : Nat) : Bool := n == 4096 || n == 8192 || n == 16384 || n == 32768

/-- What a window needs (R63). -/
inductive Need where
  | off | offscreen | exact | scaler
deriving DecidableEq, Repr

/-- The planner's raster, crop and steps for a window with a source; service, slot and scaler stay (R18, R22 to R25, R63). -/
def Plan.replan (q : Plan) (r : WindowRequest) (ws hs : Nat) : Plan :=
  let cx := effectiveCrop ws r.crop.cl r.crop.cr
  let cy := effectiveCrop hs r.crop.ct r.crop.cb
  let place := scaledPlacement cx.first cx.size cy.first cy.size r.rect
  { q with
    source := r.source, ws := ws, hs := hs, cl := cx.first, ct := cy.first, wc := cx.size, hc := cy.size
    cropIgnored := cx.ignored || cy.ignored
    sh := step1 cx.size r.rect.w, sv := step1 cy.size r.rect.h
    p := place.picture, v := place.visible, ph0 := place.x.phase, pv0 := place.y.phase }

/-- The geometry of the OFF plan; service, slot and scaler stay until the later stages (R18, R63). -/
def Plan.close (q : Plan) : Plan := { Plan.off with service := q.service, slot := q.slot, scaler := q.scaler }

def Plan.scaledPlace (q : Plan) (r : Rect) : Placement := scaledPlacement q.cl q.wc q.ct q.hc r

def Plan.coarsePlace (q : Plan) (r : Rect) : Placement := coarsePlacement q.cl q.wc q.ct q.hc r

/-- The need of a plan, from its source, crop and steps (R28, R30). -/
def Plan.need (q : Plan) (r : Rect) : Need :=
  match q.source with
  | none => .off
  | some _ =>
    if (q.scaledPlace r).empty then .offscreen
    else if exactStep q.sh && exactStep q.sv then .exact
    else .scaler

/-- Record the scaled placement (R32). -/
def Plan.placeScaled (q : Plan) (r : Rect) : Plan :=
  let place := q.scaledPlace r
  { q with p := place.picture, v := place.visible, ph0 := place.x.phase, pv0 := place.y.phase, d := 0 }

/-- Record the coarse placement and its factor (R31, R32). -/
def Plan.placeCoarse (q : Plan) (r : Rect) : Plan :=
  let place := q.coarsePlace r
  { q with p := place.picture, v := place.visible, ph0 := place.x.phase, pv0 := place.y.phase
           d := coarseFactor q.wc q.hc r.w r.h }

/-- An OFFSCREEN plan keeps raster, crop, steps and P, with an empty V and phases 0 (R12, R28). -/
def Plan.placeOffscreen (q : Plan) (r : Rect) : Plan :=
  let place := q.scaledPlace r
  { q with p := place.picture, v := ⟨place.x.v0, place.y.v0, 0, 0⟩, ph0 := 0, pv0 := 0, d := 0 }

/-- The placement that matches the service state (R12, R32). -/
def Plan.place (q : Plan) (r : Rect) : Plan :=
  match q.service with
  | .off => { Plan.off with slot := q.slot, scaler := q.scaler }
  | .offscreen => q.placeOffscreen r
  | .exact => q.placeScaled r
  | .scaled => q.placeScaled r
  | .waiting => q.placeCoarse r
  | .granted => q.placeCoarse r
  | .economy => q.placeCoarse r

end Sys2Proof.Machine
end

