-- ==== Sys2Proof/Machine/Flags.lean ====
section
/-! DEFINITION. The event latches, their edge modes, and the attention lines (R172 to R177). -/

namespace Sys2Proof.Machine

/-- The place of a kind in Table 11-5, less one. -/
def EventKind.ix : EventKind → Fin 12
  | .inputState => 0
  | .rasterChange => 1
  | .checkSync => 2
  | .counterOverflow => 3
  | .scalerWait => 4
  | .editRefused => 5
  | .pinTaken => 6
  | .pinLapsed => 7
  | .holdExpired => 8
  | .announce => 9
  | .audioClip => 10
  | .wallReset => 11

/-- Set the latch of a kind and add an index to its set, where the kind gathers indices (R172). -/
def EventState.latch (e : EventState) (k : EventKind) (index : Option Nat) : EventState :=
  { e with
    latches := e.latches.set k.ix true
    sets := match index with
      | some n => e.sets.modify k.ix (· ||| BitVec.twoPow 16 n)
      | none => e.sets }

/-- Raise an event to one link (R172). -/
def State.raise (s : State) (l : Link) (k : EventKind) (index : Option Nat) : State :=
  s.modLink l fun x => { x with events := x.events.latch k index }

/-- Raise an event to both links (R172). -/
def State.raiseBoth (s : State) (k : EventKind) (index : Option Nat) : State :=
  (s.raise .a k index).raise .b k index

/-- The edge mode of INPUT_STATE: LOSS_ONLY admits a change whose new state is LOST (R173). -/
def LossMode.admits (m : LossMode) (loss : Bool) : Bool :=
  match m with
  | .any => true
  | .lossOnly => loss

/-- The edge mode of ANNOUNCE: START_ONLY admits a change from IDLE to ACTIVE (R173). -/
def StartMode.admits (m : StartMode) (start : Bool) : Bool :=
  match m with
  | .any => true
  | .startOnly => start

/-- INPUT_STATE for an input on one link, through that link's edge mode (R87, R173). -/
def State.raiseInputStateOn (s : State) (l : Link) (i : InputIx) (now : MonitorState) : State :=
  if (s.link l).events.inputMode.admits (now == .lost) then s.raise l .inputState (some i.val) else s

def State.raiseInputState (s : State) (i : InputIx) (now : MonitorState) : State :=
  (s.raiseInputStateOn .a i now).raiseInputStateOn .b i now

/-- CHECK_SYNC for an input on one link; `loss` is a change from SYNC to HUNT (R94, R95, R173). -/
def State.raiseCheckSyncOn (s : State) (l : Link) (i : InputIx) (loss : Bool) : State :=
  if (s.link l).events.checkMode.admits loss then s.raise l .checkSync (some i.val) else s

def State.raiseCheckSync (s : State) (i : InputIx) (loss : Bool) : State :=
  (s.raiseCheckSyncOn .a i loss).raiseCheckSyncOn .b i loss

/-- ANNOUNCE on one link; `start` is a change from IDLE to ACTIVE (R148, R173). -/
def State.raiseAnnounceOn (s : State) (l : Link) (start : Bool) : State :=
  if (s.link l).events.announceMode.admits start then s.raise l .announce none else s

def State.raiseAnnounce (s : State) (start : Bool) : State :=
  (s.raiseAnnounceOn .a start).raiseAnnounceOn .b start

/-- Clear every latch with its index set (R176, R177). -/
def EventState.clearLatches (e : EventState) : EventState :=
  { e with latches := Table.fill 12 false, sets := Table.fill 12 0 }

/-- The attention line is driven low while a latch is set and enabled (R175). -/
def EventState.attention (e : EventState) : Bool :=
  (List.finRange 12).any fun k => e.latches.get k && e.enables.get k

/-- The attention line of a link is driven low (R175). -/
def State.attention (s : State) (l : Link) : Bool := (s.link l).events.attention

end Sys2Proof.Machine
end

