-- ==== Sys2Proof/Machine/Pool.lean ====
section
/-! DEFINITION. The Scaler Pool: waiting list, snapshots, arbitration, grants, releases (R38 to R54). -/

namespace Sys2Proof.Machine

/-- The Live class of a window's screen, as the pool reads it (R51). -/
def State.classOf (s : State) (w : WallWindow) : ScreenClass := (s.comps.get (screenOf w)).live.settings.cls

/-- The windows of the waiting list whose screen has a class, in list order (R42). -/
def State.capture (s : State) (c : ScreenClass) : List WallWindow := s.pool.waiting.filter fun w => s.classOf w == c

def State.captureFeature (s : State) : State := s.setPool { s.pool with feature := s.capture .feature }

def State.captureAmbient (s : State) : State := s.setPool { s.pool with ambient := s.capture .ambient }

/-- A window leaves the waiting list and both snapshots in one event (R40, R42). -/
def Pool.leave (p : Pool) (w : WallWindow) : Pool :=
  { p with waiting := p.waiting.filter (· ≠ w), feature := p.feature.filter (· ≠ w), ambient := p.ambient.filter (· ≠ w) }

/-- A window joins the waiting list at its tail (R40). -/
def Pool.join (p : Pool) (w : WallWindow) : Pool := { p with waiting := p.waiting ++ [w] }

def Pool.setScaler (p : Pool) (n : ScalerIx) (x : Scaler) : Pool := { p with scalers := p.scalers.set n x }

/-- The lowest-numbered FREE scaler (R41). -/
def Pool.freeScaler (p : Pool) : Option ScalerIx := p.scalers.lowest fun x => x == .free

/-- Arbitration grants a scaler to a waiting window: the window leaves the list and the snapshots, the record is GRANTED, and the plan is GRANTED with the rest as it stands (R47). -/
def State.grant (s : State) (n : ScalerIx) (w : WallWindow) : State :=
  (s.setPool ((s.pool.leave w).setScaler n (.granted w))).setPlan w
    { s.plan w with service := .granted, scaler := some n }

/-- No waiter: the scaler becomes FREE (R44). -/
def State.freeScaler (s : State) (n : ScalerIx) : State := s.setPool (s.pool.setScaler n .free)

/-- A grant opportunity: Feature round, Ambient grant, new round, or no waiter (R44). -/
def State.offer (s : State) (n : ScalerIx) : State :=
  match s.pool.feature with
  | w :: _ => s.grant n w
  | [] =>
    match s.pool.ambient with
    | w :: _ => (s.grant n w).captureFeature
    | [] =>
      let t := s.captureFeature.captureAmbient
      match t.pool.feature with
      | w :: _ => t.grant n w
      | [] =>
        match t.pool.ambient with
        | w :: _ => t.grant n w
        | [] => s.freeScaler n

/-- A window gives up the scaler its plan names, taking another service state, and the scaler is offered at once (R44, R49, R50). -/
def State.giveScaler (s : State) (w : WallWindow) (service : Service) : State :=
  match (s.plan w).scaler with
  | some n => (s.setPlan w { s.plan w with service := service, scaler := none }).offer n
  | none => s.setPlan w { s.plan w with service := service }

/-- The record of a scaler becomes ACTIVE for a window, which is SCALED (R43, R48). -/
def State.activate (s : State) (n : ScalerIx) (w : WallWindow) : State :=
  (s.setPool (s.pool.setScaler n (.active w))).setPlan w { s.plan w with service := .scaled, scaler := some n }

end Sys2Proof.Machine
end

