-- ==== Sys2Proof/Machine/Compositor.lean ====
section
/-! DEFINITION. The six stages of a compositor's commit, standby entry among them (R57 to R66, R72, R77). -/

namespace Sys2Proof.Machine

/-! ## Picture or fill (R72) and the planning raster (R19) -/

def State.sourceShown (s : State) (i : InputIx) : Shown :=
  let f := s.fronts.get i
  match (s.rings.get i).newest with
  | none => .fill f.fillColour
  | some _ => if f.monitor = .present ∨ f.slate = .holding then .picture else .fill f.fillColour

def State.planningRaster (s : State) (i : InputIx) : Nat × Nat :=
  match s.sourceShown i with
  | .picture => ((s.rings.get i).newestRaster).getD (Config.canvasW, Config.canvasH)
  | .fill _ => (Config.canvasW, Config.canvasH)

/-! ## Copy stage (R62) -/

/-- Staged to Live, unless the records are equal or the screen is held. -/
def State.copyStage (scr : ScreenIx) (s : State) : State :=
  if (s.holds.get scr).holder = none then s.modComp scr fun c => { c with live := s.staged.get scr } else s

/-! ## Plan stage (R20, R21, R63) -/

/-- The copy stage changed a field of the window's Live request (R20). -/
def requestChanged (old new : ScreenRecord) (k : WindowIx) : Bool :=
  match insetOf k with
  | none => old.main != new.main
  | some j => old.insets.get j != new.insets.get j

/-- The frame that ends at this boundary is the lead-in frame of a wake (R20, R78). -/
def Timing.leadIn : Timing → Bool
  | .running _ _ leadIn => leadIn
  | .starting _ => false
  | .stopped => false

/-- The conditions of R20 for a window with a source; `old` is the compositor before the commit. -/
def selected (old : Compositor) (new : ScreenRecord) (k : WindowIx) (q : Plan) (raster : Nat × Nat) : Bool :=
  requestChanged old.live new k || old.live.settings.cls != new.settings.cls || (q.ws, q.hs) != raster ||
    (q.service == .offscreen && old.timing.leadIn) || q.service == .off

/-- Plan one window (R18, R20, R21). -/
def State.planWindow (old : Compositor) (scr : ScreenIx) (s : State) (k : WindowIx) : State :=
  let c := s.comps.get scr
  let q := c.plans.get k
  let r := c.live.window k
  match r.source with
  | none => s.setComp scr { c with plans := c.plans.set k q.close }
  | some i =>
    let raster := s.planningRaster i
    s.setComp scr
      { c with
        plans := c.plans.set k (if selected old c.live k q raster then q.replan r raster.1 raster.2 else q)
        shown := c.shown.set k (s.sourceShown i) }

def State.planStage (old : Compositor) (scr : ScreenIx) (s : State) : State :=
  windowsInOrder.foldl (State.planWindow old scr) s

/-- The need of a window's plan (R63). -/
def State.needOf (s : State) (scr : ScreenIx) (k : WindowIx) : Need :=
  let c := s.comps.get scr
  (c.plans.get k).need (c.live.window k).rect

/-- The service a plan calls for when its window holds no scaler and does not wait (R49, R50). -/
def Need.service : Need → Service
  | .off => .off
  | .offscreen => .offscreen
  | .exact => .exact
  | .scaler => .economy

def State.economy (s : State) (scr : ScreenIx) : Bool := (s.comps.get scr).live.settings.cls == .economy

/-! ## Release stage (R49, R50, R52, R64) -/

/-- A change of class between FEATURE and AMBIENT takes the screen's windows out of both snapshots before any grant opportunity of the commit (R52, log 14). -/
def State.dropFromSnapshots (scr : ScreenIx) (s : State) : State :=
  s.setPool
    { s.pool with
      feature := s.pool.feature.filter fun w => screenOf w != scr
      ambient := s.pool.ambient.filter fun w => screenOf w != scr }

/-- First pass: a window on the list leaves when its plan needs no scaler or its screen is ECONOMY (R49). -/
def State.leaveWindow (scr : ScreenIx) (s : State) (k : WindowIx) : State :=
  let w := wallWindow scr k
  let need := s.needOf scr k
  if (s.plan w).service = .waiting ∧ (need ≠ .scaler ∨ s.economy scr = true) then
    (s.setPool (s.pool.leave w)).setPlan w { s.plan w with service := need.service }
  else s

/-- Second pass: a SCALED or GRANTED window that no longer needs its scaler, or whose screen is ECONOMY, gives it up (R49, R50). -/
def State.releaseWindow (scr : ScreenIx) (s : State) (k : WindowIx) : State :=
  let w := wallWindow scr k
  let need := s.needOf scr k
  if ((s.plan w).service = .scaled ∨ (s.plan w).service = .granted) ∧ (need ≠ .scaler ∨ s.economy scr = true) then
    s.giveScaler w need.service
  else s

def State.releasePasses (scr : ScreenIx) (s : State) : State :=
  windowsInOrder.foldl (State.releaseWindow scr) (windowsInOrder.foldl (State.leaveWindow scr) s)

/-- The leaving pass of a commit that enters STANDBY: every window of the screen leaves the list and the snapshots (R53, R64). -/
def State.leaveAll (scr : ScreenIx) (s : State) : State :=
  windowsInOrder.foldl (fun t k => t.setPool (t.pool.leave (wallWindow scr k))) s

def State.releaseStage (old : Compositor) (scr : ScreenIx) (s : State) : State :=
  let now := (s.comps.get scr).live.settings.cls
  let t := if old.live.settings.cls ≠ now then s.dropFromSnapshots scr else s
  t.releasePasses scr

/-! ## Request stage (R43, R48) -/

/-- One window's request; the flag says whether a window of this commit has joined the list. -/
def State.requestWindow (scr : ScreenIx) (st : State × Bool) (k : WindowIx) : State × Bool :=
  let s := st.1
  let w := wallWindow scr k
  let q := s.plan w
  match s.needOf scr k with
  | .scaler =>
    match q.service, q.scaler with
    | .granted, some n => (s.activate n w, st.2)
    | .scaled, _ => st
    | .waiting, _ => st
    | _, _ =>
      if s.economy scr then (s.setPlan w { q with service := .economy }, st.2)
      else
        match s.pool.freeScaler with
        | some n => (s.activate n w, st.2)
        | none => ((s.setPool (s.pool.join w)).setPlan w { q with service := .waiting }, true)
  | need => (s.setPlan w { q with service := need.service }, st.2)

/-- The plan records the placement that matches its service state (R32). -/
def State.placeWindow (scr : ScreenIx) (s : State) (k : WindowIx) : State :=
  let c := s.comps.get scr
  s.setComp scr { c with plans := c.plans.modify k fun q => q.place (c.live.window k).rect }

/-- SCALER_WAIT is raised once for the screen when a window has joined (R43). -/
def State.requestStage (scr : ScreenIx) (s : State) : State :=
  let (t, joined) := windowsInOrder.foldl (State.requestWindow scr) (s, false)
  let u := windowsInOrder.foldl (State.placeWindow scr) t
  if joined then u.raiseBoth .scalerWait (some scr.val) else u

/-! ## Slot stage (R65, R107) -/

/-- Give up the slot the plan before the commit named. -/
def State.giveUpSlot (old : Compositor) (s : State) (k : WindowIx) : State :=
  let q := old.plans.get k
  match q.source, q.slot with
  | some i, some n => s.modRing i fun r => r.giveUp n
  | _, _ => s

/-- The services that read a slot (R65). -/
def Service.reads : Service → Bool
  | .off => false
  | .offscreen => false
  | .exact => true
  | .scaled => true
  | .waiting => true
  | .granted => true
  | .economy => true

/-- The slot a window takes: the newest-ready slot of its source shown as picture (R65). -/
def State.slotFor (s : State) (scr : ScreenIx) (k : WindowIx) : Option (InputIx × SlotIx) :=
  let c := s.comps.get scr
  let q := c.plans.get k
  match q.source, c.shown.get k with
  | some i, .picture => if q.service.reads then (s.rings.get i).newest.map fun n => (i, n) else none
  | _, _ => none

def State.takeSlot (scr : ScreenIx) (s : State) (k : WindowIx) : State :=
  let c := s.comps.get scr
  match s.slotFor scr k with
  | some (i, n) =>
    (s.setComp scr { c with plans := c.plans.modify k fun q => { q with slot := some n } }).modRing i fun r => r.take n
  | none => s.setComp scr { c with plans := c.plans.modify k fun q => { q with slot := none } }

def State.slotStage (old : Compositor) (scr : ScreenIx) (s : State) : State :=
  windowsInOrder.foldl (State.takeSlot scr) (windowsInOrder.foldl (State.giveUpSlot old) s)

/-! ## Standby stage (R53, R66) -/

/-- Every scaler still held is given back in order W0 to W3 (R53). -/
def State.standbyRelease (scr : ScreenIx) (s : State) (k : WindowIx) : State :=
  let w := wallWindow scr k
  if (s.plan w).scaler = none then s else s.giveScaler w .offscreen

/-- The plan of a window of a sleeping screen: raster, crop and steps kept, the P of an OFFSCREEN plan, nothing visible, no slot, no scaler (R11, R12, R66, log 13). -/
def Plan.sleep (q : Plan) (r : Rect) : Plan :=
  match q.source with
  | none => .off
  | some _ => { q.placeOffscreen r with service := .offscreen, slot := none, scaler := none }

/-- A compositor that enters STANDBY: its plans sleep and its output timing stops (R66). -/
def Compositor.sleep (c : Compositor) : Compositor :=
  { c with
    plans := Table.tab 4 fun k => (c.plans.get k).sleep (c.live.window k).rect
    run := .standby
    timing := .stopped }

def State.standbyStage (old : Compositor) (scr : ScreenIx) (s : State) : State :=
  let t := windowsInOrder.foldl (State.giveUpSlot old) (windowsInOrder.foldl (State.standbyRelease scr) s)
  t.modComp scr Compositor.sleep

/-! ## CHANGE_PENDING (R10) -/

/-- The Live copy differs from the Staged record. -/
def State.changePending (s : State) (scr : ScreenIx) : Bool := (s.comps.get scr).live != s.staged.get scr

end Sys2Proof.Machine
end

