-- ==== Sys2Proof/Machine/Picture.lean ====
section
/-! DEFINITION. The pixels of a screen's output: sampling, interpolation and averaging of a slot's lines, layers, borders and test patterns (R33 to R37, R67 to R76, R78). -/

namespace Sys2Proof.Machine

/-! ## Reading a slot (R33) -/

/-- The source pixel at a column and row of a slot. -/
def Slot.pixel (x : Slot) (c r : Nat) : Colour := (x.lines.getD r []).getD c .black

/-- A read of one component, confined to the plan's effective crop (R33). -/
def sampleAt (x : Slot) (q : Plan) (comp : Colour → Component) (c r : Nat) : Nat :=
  (comp (x.pixel (min c (q.cl + q.wc - 1)) (min r (q.ct + q.hc - 1)))).toNat

/-! ## Scaled service (R34, R35) -/

/-- One pass of the interpolation (R35). -/
def mixPair (first second weight : Nat) : Nat := (first * (16 - weight) + second * weight + 8) / 16

/-- The interpolated component at source position `px`, `py` (R34, R35). -/
def interpolate (x : Slot) (q : Plan) (comp : Colour → Component) (px py : Nat) : Nat :=
  let p := px / 4096
  let f := px % 4096 / 256
  let row := py / 4096
  let g := py % 4096 / 256
  let a := mixPair (sampleAt x q comp p row) (sampleAt x q comp (p + 1) row) f
  let b := mixPair (sampleAt x q comp p (row + 1)) (sampleAt x q comp (p + 1) (row + 1)) f
  mixPair a b g

/-! ## Box decimation (R36) -/

/-- The components of the block whose top-left pixel is at `c`, `r`. -/
def blockSamples (x : Slot) (q : Plan) (comp : Colour → Component) (c r dh dv : Nat) : List Nat :=
  (List.range dv).flatMap fun j => (List.range dh).map fun i => sampleAt x q comp (c + i) (r + j)

/-- The average of `n` components (R36). -/
def average (xs : List Nat) : Nat := (xs.sum + xs.length / 2) / xs.length

def boxAverage (x : Slot) (q : Plan) (comp : Colour → Component) (px py dh dv : Nat) : Nat :=
  average (blockSamples x q comp (px / 4096) (py / 4096) dh dv)

/-! ## A window's picture (R69) -/

/-- One component of the picture at canvas column `c` and row `r` of the visible rectangle. -/
def pictureComponent (x : Slot) (q : Plan) (comp : Colour → Component) (c r : Int) : Nat :=
  let across (stp : Nat) : Nat := q.ph0 + (c - q.v.x).toNat * stp
  let down (stp : Nat) : Nat := q.pv0 + (r - q.v.y).toNat * stp
  match q.service with
  | .scaled => interpolate x q comp (across q.sh) (down q.sv)
  | .exact => boxAverage x q comp (across q.sh) (down q.sv) (q.sh / 4096) (q.sv / 4096)
  | .waiting => boxAverage x q comp (across (q.d * 4096)) (down (q.d * 4096)) q.d q.d
  | .granted => boxAverage x q comp (across (q.d * 4096)) (down (q.d * 4096)) q.d q.d
  | .economy => boxAverage x q comp (across (q.d * 4096)) (down (q.d * 4096)) q.d q.d
  | .off => 0
  | .offscreen => 0

def picturePixel (x : Slot) (q : Plan) (c r : Int) : Colour :=
  ⟨BitVec.ofNat 10 (pictureComponent x q Colour.r c r), BitVec.ofNat 10 (pictureComponent x q Colour.g c r),
    BitVec.ofNat 10 (pictureComponent x q Colour.b c r)⟩

def Rect.has (a : Rect) (c r : Int) : Bool := a.x ≤ c && c < a.x + a.w && a.y ≤ r && r < a.y + a.h

/-- The services that have a drawn area (R68). -/
def Service.drawn : Service → Bool
  | .off => false
  | .offscreen => false
  | .exact => true
  | .scaled => true
  | .waiting => true
  | .granted => true
  | .economy => true

/-- The slot a plan reads. -/
def State.slotOf (s : State) (q : Plan) : Option Slot :=
  match q.source, q.slot with
  | some i, some n => some ((s.rings.get i).slots.get n)
  | _, _ => none

/-- The picture or matte pixel of a window at a place of its drawn area (R69). -/
def State.windowPixel (s : State) (q : Plan) (shown : Shown) (matte : Colour) (c r : Int) : Colour :=
  if q.v.has c r then
    match shown with
    | .fill colour => colour
    | .picture =>
      match s.slotOf q with
      | some x => picturePixel x q c r
      | none => matte
  else matte

/-! ## Layers (R68, R70, R71) -/

/-- The blend of one component (R70). -/
def blend (opacity top below : Nat) : Nat := (opacity * top + (256 - opacity) * below + 128) / 256

def blendPixel (opacity : Nat) (top below : Colour) : Colour :=
  ⟨BitVec.ofNat 10 (blend opacity top.r.toNat below.r.toNat), BitVec.ofNat 10 (blend opacity top.g.toNat below.g.toNat),
    BitVec.ofNat 10 (blend opacity top.b.toNat below.b.toNat)⟩

/-- The border pixels of a rectangle: those within the border width of its edges (R71). -/
def onBorder (a : Rect) (width : Nat) (c r : Int) : Bool :=
  a.has c r && (c < a.x + width || a.x + a.w - width ≤ c || r < a.y + width || a.y + a.h - width ≤ r)

/-- The main window replaces what lies beneath it (R68). -/
def State.mainLayer (s : State) (k : Compositor) (c r : Int) (below : Colour) : Colour :=
  let q := k.plans.get 0
  if q.service.drawn then s.windowPixel q (k.shown.get 0) k.live.settings.background c r else below

/-- One inset: its drawn area is blended, and then its border is drawn opaque (R68, R70, R71). -/
def State.insetLayer (s : State) (k : Compositor) (j : InsetIx) (c r : Int) (below : Colour) : Colour :=
  let w : WindowIx := ⟨j.val + 1, by omega⟩
  let q := k.plans.get w
  let req := k.live.insets.get j
  if q.service.drawn && req.rect.has c r then
    if onBorder req.rect req.border c r then req.colour
    else blendPixel req.opacity (s.windowPixel q (k.shown.get w) req.colour c r) below
  else below

/-! ## Test patterns (R74 to R76) -/

def white : Colour := ⟨1023, 1023, 1023⟩

def barColour : Nat → Colour
  | 0 => ⟨1023, 1023, 1023⟩
  | 1 => ⟨1023, 1023, 0⟩
  | 2 => ⟨0, 1023, 1023⟩
  | 3 => ⟨0, 1023, 0⟩
  | 4 => ⟨1023, 0, 1023⟩
  | 5 => ⟨1023, 0, 0⟩
  | 6 => ⟨0, 0, 1023⟩
  | _ => ⟨0, 0, 0⟩

/-- The check ramp (R75, R94). -/
def rampPixel (c r : Nat) : Colour :=
  let v : Component := BitVec.ofNat 10 ((c + 4 * r) % 1024)
  ⟨v, v, v⟩

/-- The seven segments of a digit: top, upper left, upper right, middle, lower left, lower right, bottom (R76). -/
structure Segments where
  top        : Bool
  upperLeft  : Bool
  upperRight : Bool
  middle     : Bool
  lowerLeft  : Bool
  lowerRight : Bool
  bottom     : Bool
deriving DecidableEq, Repr

def digitSegments : Nat → Segments
  | 0 => ⟨true, true, true, false, true, true, true⟩
  | 1 => ⟨false, false, true, false, false, true, false⟩
  | 2 => ⟨true, false, true, true, true, false, true⟩
  | 3 => ⟨true, false, true, true, false, true, true⟩
  | 4 => ⟨false, true, true, true, false, true, false⟩
  | 5 => ⟨true, true, false, true, false, true, true⟩
  | 6 => ⟨true, true, false, true, true, true, true⟩
  | 7 => ⟨true, false, true, false, false, true, false⟩
  | 8 => ⟨true, true, true, true, true, true, true⟩
  | _ => ⟨true, true, true, true, false, true, true⟩

/-- A lit pixel of the digit whose cell begins at column `x` (R76). -/
def digitPixel (digit x c r : Nat) : Bool :=
  let g := digitSegments digit
  let cols (a b : Nat) : Bool := x + a ≤ c && c ≤ x + b
  let rows (a b : Nat) : Bool := a ≤ r && r ≤ b
  (g.top && cols 0 239 && rows 340 379) || (g.upperLeft && cols 0 39 && rows 340 539) ||
    (g.upperRight && cols 200 239 && rows 340 539) || (g.middle && cols 0 239 && rows 520 559) ||
    (g.lowerLeft && cols 0 39 && rows 540 739) || (g.lowerRight && cols 200 239 && rows 540 739) ||
    (g.bottom && cols 0 239 && rows 700 739)

/-- The screen number in one or two digits (R76). -/
def idCardPixel (number c r : Nat) : Bool :=
  if number < 10 then digitPixel number 840 c r else digitPixel 1 680 c r || digitPixel (number - 10) 1000 c r

/-- The pattern replaces every pixel (R74). -/
def patternPixel (p : Pattern) (number : Nat) (background : Colour) (c r : Nat) (composed : Colour) : Colour :=
  match p with
  | .none => composed
  | .bars => barColour (c / 240)
  | .solid => background
  | .idCard => if idCardPixel number c r then white else background
  | .ramp => rampPixel c r

/-! ## The output (R60, R67, R68, R78) -/

/-- The composed pixel of the frame in progress: background, main window, insets W1 to W3, pattern. -/
def State.composed (s : State) (scr : ScreenIx) (c r : Nat) : Colour :=
  let k := s.comps.get scr
  let layers := s.mainLayer k c r k.live.settings.background
  let layers := s.insetLayer k 0 c r layers
  let layers := s.insetLayer k 1 c r layers
  let layers := s.insetLayer k 2 c r layers
  patternPixel k.live.settings.pattern (scr.val + 1) k.live.settings.background c r layers

/-- The pixel the screen's output carries at a column and row of its frame in progress; none while it carries no frame.
A lead-in frame carries the Live background alone (R78). -/
def State.pixel (s : State) (scr : ScreenIx) (c r : Nat) : Option Colour :=
  match (s.comps.get scr).timing with
  | .starting _ => none
  | .stopped => none
  | .running _ _ true => some (s.comps.get scr).live.settings.background
  | .running _ _ false => some (s.composed scr c r)

/-- Row `r` of the frame in progress, as a looped input receives it (R60, R92). -/
def State.outputLine (s : State) (scr : ScreenIx) (r : Nat) : List Colour :=
  (List.range Config.canvasW).map fun c => (s.pixel scr c r).getD .black

end Sys2Proof.Machine
end

