-- ==== Sys2Proof/Machine/FrontEnd.lean ====
section
/-! DEFINITION. The input front ends: qualification, monitor, capture, slate, checker, counter, audio extraction (R80 to R98). -/

namespace Sys2Proof.Machine

/-! ## Error counter (R96, R97) -/

/-- One event of a kind is counted when the counter selects that kind (R96). -/
def FrontEnd.countEvent (f : FrontEnd) (k : CounterKind) : FrontEnd :=
  if f.counterKind = k then
    if f.count < 65535 then { f with count := f.count + 1 } else { f with count := 65535, countOver := true }
  else f

/-- A snapshot copies the running count with its mark and clears both (R97). -/
def FrontEnd.takeSnapshot (f : FrontEnd) : FrontEnd :=
  { f with snap := f.count, snapOver := f.countOver, count := 0, countOver := false }

/-- The snapshot of one input, with COUNTER_OVERFLOW when the copied mark is set (R97). -/
def State.snapshot (i : InputIx) (s : State) : State :=
  let f := s.fronts.get i
  let t := s.setFront i f.takeSnapshot
  if f.countOver then t.raiseBoth .counterOverflow (some i.val) else t

/-- Snapshots of the inputs of a set in a snapshot mode, in input order (R97, R132). -/
def State.snapshots (mode : SnapshotMode) (p : InputIx → Bool) (s : State) : State :=
  ((List.finRange 12).filter fun i => p i && (s.fronts.get i).snapshotMode == mode).foldl (fun t i => t.snapshot i) s

/-! ## Formats and criteria (R82 to R84) -/

/-- Valid matching frames that declare an input PRESENT (R84). -/
def Criterion.m : Criterion → Nat
  | .quick => 3
  | .steady => 30

/-- Missed intervals that declare it LOST (R84). -/
def Criterion.n : Criterion → Nat
  | .quick => 2
  | .steady => 30

/-- The format of a completed frame that is valid (R82).
A looped frame is judged by its measured period like any other: the first one after a standby so short that its period stays within 42.0 ms is valid (the model's choice, log 32). -/
def FrameInProgress.validFormat (x : FrameInProgress) : Option Format :=
  match x.firstWidth, x.period with
  | some w, some p =>
    if x.lineError = false ∧ Config.widthMin ≤ w ∧ w ≤ Config.widthMax ∧ Config.heightMin ≤ x.lines ∧
        x.lines ≤ Config.heightMax ∧ Config.periodMin ≤ p ∧ p ≤ Config.periodMax then
      some { width := w, height := x.lines, period := p }
    else none
  | _, _ => none

/-- |a − b| of two natural numbers. -/
def distance (a b : Nat) : Nat := (a - b) + (b - a)

/-- A valid frame of format `x` matches format `f`: the period within 2 % of `f`'s (R83). -/
def Format.matched (f x : Format) : Bool :=
  x.width == f.width && x.height == f.height && 50 * distance x.period f.period ≤ f.period

/-- The miss interval, 1.25 × the latched period in whole reference periods (R86). -/
def missInterval (period : Nat) : Nat := period * 5 / 4

/-! ## Slate and audio at a change of the monitor (R90, R98) -/

/-- The hold timer for a hold time in seconds; 0 is indefinite (R90). -/
def holdTimer (seconds : Nat) : HoldTimer := if seconds = 0 then .indefinite else .running (seconds * 1000)

/-- The monitor leaves PRESENT: the slate holds or fills, and the audio FIFO is emptied (R90, R98). -/
def FrontEnd.depart (f : FrontEnd) : FrontEnd :=
  { f with
    slate := match f.slateMode with
      | .hold => .holding
      | .fill => .fill
    slateTimer := match f.slateMode with
      | .hold => holdTimer f.holdTime
      | .fill => .stopped
    fifo := []
    audioPresent := false }

/-- The monitor enters PRESENT with a candidate as the latched format (R85, R90). -/
def FrontEnd.enterPresent (f : FrontEnd) (x : Format) : FrontEnd :=
  { f with
    monitor := .present, latched := some x, candidate := none, acqCount := 0, missCount := 0
    acqTimer := none, missLeft := some (missInterval x.period), slate := .idle, slateTimer := .stopped }

/-- The monitor enters ACQUIRING with a frame's format as the candidate (R84, R85, R86). -/
def FrontEnd.enterAcquiring (f : FrontEnd) (x : Format) : FrontEnd :=
  { f with
    monitor := .acquiring, candidate := some x, acqCount := 1, acqTimer := some Config.acquisitionMs, missLeft := none }

/-- The monitor enters LOST; the latched format is kept (R85, R86, R93). -/
def FrontEnd.enterLost (f : FrontEnd) : FrontEnd :=
  { f with monitor := .lost, candidate := none, acqCount := 0, missCount := 0, acqTimer := none, missLeft := none }

/-- Entry to HUNT clears the run count, the block position and the block errors (R95). -/
def FrontEnd.enterHunt (f : FrontEnd) : FrontEnd :=
  { f with checker := .hunt, runCount := 0, blockPos := 0, blockErrors := 0 }

/-- A checker in SYNC goes to HUNT, raising CHECK_SYNC (R95). -/
def State.loseSync (i : InputIx) (s : State) : State :=
  if (s.fronts.get i).checker = .sync then (s.modFront i FrontEnd.enterHunt).raiseCheckSync i true else s

/-- The FILLING slot of the frame in progress, if any, is abandoned; the frame goes on without a slot (R89, R105). -/
def State.abandonSlot (i : InputIx) (s : State) : State :=
  match (s.fronts.get i).frame with
  | some x =>
    match x.slot with
    | some n => (s.modRing i fun r => r.abandon n).modFront i fun f => { f with frame := some { x with slot := none } }
    | none => s
  | none => s

/-- The monitor enters LOST from ACQUIRING or PRESENT: slate, audio, checker and INPUT_STATE (R86, R87, R90, R95, R98). -/
def State.loseInput (i : InputIx) (s : State) : State :=
  let f := s.fronts.get i
  let g := if f.monitor = .present then f.depart else f
  ((s.setFront i g.enterLost).loseSync i).raiseInputState i .lost

/-! ## Capture (R88, R103) -/

/-- A slot is asked for; with none FREE the frame is dropped, which is one DROPS event. -/
def State.askSlot (i : InputIx) (s : State) (seq : Nat) : State × Option SlotIx :=
  match (s.rings.get i).freeSlot with
  | some n => (s.modRing i fun r => r.fill n seq, some n)
  | none => (s.modFront i fun f => f.countEvent .drops, none)

/-- The frame in progress is completed as an invalid frame (R81, R82, R89). -/
def State.completeInvalid (i : InputIx) (s : State) : State :=
  (s.abandonSlot i).modFront i fun f => { f.countEvent .invalidFrames with frame := none }

/-- Capture at a frame start: in PRESENT the capture frame count rises and a slot is asked for (R88). -/
def State.captureStart (i : InputIx) (s : State) : State × Option SlotIx :=
  let f := s.fronts.get i
  let seq := (f.captureCount + 1) % 65536
  if f.monitor = .present then (s.setFront i { f with captureCount := seq }).askSlot i seq else (s, none)

/-- A frame begins on an input that has none in progress (R81, R88). -/
def State.openFrame (i : InputIx) (s : State) : State :=
  let f := s.fronts.get i
  let c := s.captureStart i
  c.1.modFront i fun g =>
    { g with
      prevStart := some s.clock
      frame := some
        { start := s.clock, period := f.prevStart.map (s.clock - ·), firstWidth := none, lines := 0, lineError := false
          startedPresent := f.monitor == .present, slot := c.2 } }

/-- A frame start that the front end observes; it truncates a frame in progress (R81, R88). -/
def State.frameStart (i : InputIx) (s : State) : State :=
  if (s.fronts.get i).frame.isSome then (s.completeInvalid i).openFrame i else s.openFrame i

/-! ## Lines (R82, R94 to R96) -/

/-- A line matches the check ramp at its row (R94). -/
def rampLine (row : Nat) (pixels : List Colour) : Bool :=
  pixels == (List.range pixels.length).map fun c => rampPixel c row

/-- A line in HUNT: the eighth that matches in a row enters SYNC (R94). -/
def FrontEnd.huntLine (f : FrontEnd) (good : Bool) : FrontEnd :=
  if good then
    if f.runCount + 1 < 8 then { f with runCount := f.runCount + 1 }
    else { f with checker := .sync, runCount := 0, blockPos := 0, blockErrors := 0 }
  else { f with runCount := 0 }

/-- A line in SYNC: a check error is counted, the seventh of a block enters HUNT, and a block ends with its 64th line (R95). -/
def FrontEnd.syncLine (f : FrontEnd) (good : Bool) : FrontEnd :=
  let g := if good then f else { f.countEvent .checkErrors with blockErrors := f.blockErrors + 1 }
  if 7 ≤ g.blockErrors then g.enterHunt
  else if 63 ≤ f.blockPos then { g with blockPos := 0, blockErrors := 0 }
  else { g with blockPos := f.blockPos + 1 }

def FrontEnd.judgeLine (f : FrontEnd) (good : Bool) : FrontEnd :=
  match f.checker with
  | .off => f
  | .hunt => f.huntLine good
  | .sync => f.syncLine good

/-- The path checker judges one line, with CHECK_SYNC at a change between HUNT and SYNC (R94, R95). -/
def State.checkLine (i : InputIx) (good : Bool) (s : State) : State :=
  let f := s.fronts.get i
  let g := f.judgeLine good
  let t := s.setFront i g
  if g.checker = f.checker then t else t.raiseCheckSync i (f.checker == .sync)

/-- An active line of the frame in progress ends (R82, R94, R104). A line outside a frame is disregarded (R81). -/
def State.activeLine (i : InputIx) (pixels : List Colour) (s : State) : State :=
  match (s.fronts.get i).frame with
  | none => s
  | some x =>
    let first := x.firstWidth.getD pixels.length
    let bad := pixels.length ≠ first
    let s1 := match x.slot with
      | some n => s.modRing i fun r => r.writeLine n pixels
      | none => s
    let s2 := s1.modFront i fun f =>
      let g := if bad then f.countEvent .lineErrors else f
      { g with
        frame := some { x with firstWidth := some first, lines := x.lines + 1, lineError := x.lineError || decide bad } }
    s2.checkLine i (rampLine x.lines pixels)

/-! ## Frame ends (R82 to R89, R98) -/

/-- What a valid frame does to the monitor: the new front end, and whether it left PRESENT (R84 to R86). -/
def FrontEnd.validFrame (f : FrontEnd) (x : Format) : FrontEnd :=
  match f.monitor with
  | .lost => f.enterAcquiring x
  | .acquiring =>
    match f.candidate with
    | some c =>
      if c.matched x then
        if f.criterion.m ≤ f.acqCount + 1 then f.enterPresent c
        else { f with acqCount := f.acqCount + 1, acqTimer := some Config.acquisitionMs }
      else f.enterAcquiring x
    | none => f.enterAcquiring x
  | .present =>
    match f.latched with
    | some c =>
      if c.matched x then { f with missCount := 0, missLeft := some (missInterval c.period) }
      else f.depart.enterAcquiring x
    | none => f.depart.enterAcquiring x

/-- INPUT_STATE at every change of monitor state, and RASTER_CHANGE at PRESENT to ACQUIRING (R86, R87). -/
def State.raiseMonitor (i : InputIx) (before now : MonitorState) (s : State) : State :=
  if before = now then s
  else
    let t := s.raiseInputState i now
    if before = .present ∧ now = .acquiring then t.raiseBoth .rasterChange (some i.val) else t

/-- The embedded samples of a taken frame enter the FIFO; samples that find it full are discarded (R98). -/
def FrontEnd.takeAudio (f : FrontEnd) (audio : Option (List Stereo)) : FrontEnd :=
  match audio with
  | some xs => { f with fifo := (f.fifo ++ xs).take Config.audioFifoSamples, audioPresent := true }
  | none => { f with audioPresent := false }

/-- The hand-off of a completed valid frame after the monitor's transition: publication and audio when it matches the latched format and the input is PRESENT before and after, else abandonment (R89, R98, R104). -/
def State.handOff (i : InputIx) (x : FrameInProgress) (kept : Bool) (audio : Option (List Stereo)) (s : State) : State :=
  if kept && x.startedPresent then
    let s1 := match x.slot, (s.fronts.get i).latched with
      | some n, some c => s.modRing i fun r => r.publish n c.width c.height
      | _, _ => s
    s1.modFront i fun f => f.takeAudio audio
  else s.abandonSlot i

/-- A frame end (R81): judge the frame, let the monitor change, hand the frame off, and count it. A frame end outside a frame is disregarded. -/
def State.frameEnd (i : InputIx) (audio : Option (List Stereo)) (s : State) : State :=
  let f := s.fronts.get i
  match f.frame with
  | none => s
  | some x =>
    match x.validFormat with
    | none => s.completeInvalid i
    | some form =>
      let g := f.validFrame form
      let kept := f.monitor == .present && g.monitor == .present
      let s1 := (s.setFront i g).raiseMonitor i f.monitor g.monitor
      (s1.handOff i x kept audio).modFront i fun h => { h with frame := none }

/-! ## Expiries (R85, R86, R90) -/

/-- The acquisition timer expires: back to LOST (R85). -/
def State.acquisitionExpiry (i : InputIx) (s : State) : State :=
  let f := s.fronts.get i
  if f.monitor = .acquiring ∧ f.acqTimer.isSome then s.loseInput i else s

/-- The miss interval expires: the miss count rises, and at N the monitor enters LOST (R86, R89). -/
def State.missExpiry (i : InputIx) (s : State) : State :=
  let f := s.fronts.get i
  if f.monitor = .present ∧ f.missLeft.isSome then
    if f.criterion.n ≤ f.missCount + 1 then (s.abandonSlot i).loseInput i
    else
      s.setFront i
        { f with missCount := f.missCount + 1, missLeft := f.latched.map fun c => missInterval c.period }
  else s

/-- The slate's hold timer has reached 0 (R90). -/
def FrontEnd.slateExpiry (f : FrontEnd) : FrontEnd :=
  match f.slate, f.slateTimer with
  | .holding, .running _ => { f with slate := .fill, slateTimer := .stopped }
  | _, _ => f

/-! ## SET_INPUT (R87, R91, R93, R95 to R97, R131) -/

/-- Slate mode, hold time and fill colour (R91). -/
def FrontEnd.setSlate (f : FrontEnd) (x : InputSettings) : FrontEnd :=
  let g := { f with slateMode := x.slateMode, holdTime := x.holdTime, fillColour := x.fillColour }
  match f.slateMode, x.slateMode with
  | .hold, .fill => if f.slate = .holding then { g with slate := .fill, slateTimer := .stopped } else g
  | .fill, .hold =>
    if f.slate = .fill ∧ f.monitor ≠ .present then { g with slate := .holding, slateTimer := holdTimer x.holdTime } else g
  | _, _ =>
    if f.slate = .holding ∧ f.holdTime ≠ x.holdTime then { g with slateTimer := holdTimer x.holdTime } else g

/-- The loop selection of I11 or I12 (R93). -/
def State.setLoop (i : InputIx) (lp : Option ScreenIx) (s : State) : State :=
  if (s.fronts.get i).loop = lp then s
  else
    let s1 := (s.abandonSlot i).modFront i fun f =>
      { f with loop := lp, frame := none, prevStart := none, fifo := [], audioPresent := false }
    let s2 := if (s1.fronts.get i).monitor = .lost then s1 else s1.loseInput i
    s2.loseSync i

/-- The checker turned on or off (R95). -/
def FrontEnd.setChecker (f : FrontEnd) (on : Bool) : FrontEnd :=
  if on then
    match f.checker with
    | .off => f.enterHunt
    | .hunt => f
    | .sync => f
  else
    match f.checker with
    | .off => f
    | .hunt => { f with checker := .off, runCount := 0, blockPos := 0, blockErrors := 0 }
    | .sync => { f with checker := .off, runCount := 0, blockPos := 0, blockErrors := 0 }

/-- A changed counter kind clears the running count and its mark (R96). -/
def FrontEnd.setCounterKind (f : FrontEnd) (k : CounterKind) : FrontEnd :=
  if f.counterKind = k then f else { f with counterKind := k, count := 0, countOver := false }

/-- Every setting of an input, in the order of R131 (log 17). -/
def State.applyInputSettings (i : InputIx) (x : InputSettings) (s : State) : State :=
  let s1 := s.modFront i fun f => { f.setSlate x with criterion := x.criterion }
  (s1.setLoop i x.loop).modFront i fun f =>
    { (f.setChecker x.checkerOn).setCounterKind x.counterKind with snapshotMode := x.snapshotMode }

end Sys2Proof.Machine
end

