-- ==== Sys2Proof/Machine/Frames.lean ====
section
/-! DEFINITION. The output frames of a screen: their start and end, with the inputs looped from them, the commit at a boundary, and the wake (R59 to R61, R78, R79, R92). -/

namespace Sys2Proof.Machine

/-! ## Looped inputs (R60, R92, log 16) -/

/-- The input takes its frames from a screen's output. -/
def State.loopedFrom (s : State) (scr : ScreenIx) (i : InputIx) : Bool := (s.fronts.get i).loop == some scr

/-- Lines of the frame in progress of an input. -/
def FrontEnd.linesSoFar (f : FrontEnd) : Nat :=
  match f.frame with
  | some x => x.lines
  | none => 0

/-- An input takes rows of a screen's output as active lines, one after another; `pic` is the part as the output shows it. -/
def State.takeRows (pic : State) (scr : ScreenIx) (i : InputIx) (rows : List Nat) (s : State) : State :=
  rows.foldl (fun t r => t.activeLine i (pic.outputLine scr r)) s

/-- An input looped from a screen takes the rest of its frame's 1080 rows and the frame's end, which carries no audio.
Outside a frame it takes nothing. -/
def State.endLoopedFrame (pic : State) (scr : ScreenIx) (s : State) (i : InputIx) : State :=
  if s.loopedFrom scr i && (s.fronts.get i).frame.isSome then
    (State.takeRows pic scr i ((List.range Config.canvasH).drop (s.fronts.get i).linesSoFar) s).frameEnd i none
  else s

/-- The frame of a screen is over: every input looped from it takes what it has not yet taken of that frame (R92). -/
def State.endLoopedFrames (scr : ScreenIx) (s : State) : State :=
  (List.finRange 12).foldl (State.endLoopedFrame s scr) s

/-- A frame of a screen begins: every input looped from it observes the frame start (R60, R92). -/
def State.startLoopedFrames (scr : ScreenIx) (s : State) : State :=
  (List.finRange 12).foldl (fun t i => if t.loopedFrom scr i then t.frameStart i else t) s

/-! ## Output frames (R59) -/

/-- A frame of one period of the Live rate begins. -/
def State.startFrame (scr : ScreenIx) (leadIn : Bool) (s : State) : State :=
  (s.modComp scr fun c =>
    { c with timing := .running c.live.settings.rate.period c.live.settings.rate.period leadIn }).startLoopedFrames scr

/-! ## The commit (R61) -/

/-- The whole commit at a boundary of an ACTIVE screen. -/
def State.commit (scr : ScreenIx) (s : State) : State :=
  let old := s.comps.get scr
  let t := (s.copyStage scr).planStage old scr
  if (t.comps.get scr).live.settings.standby then
    ((t.leaveAll scr).releasePasses scr).standbyStage old scr
  else
    (((t.releaseStage old scr).requestStage scr).slotStage old scr).startFrame scr false

/-! ## Wake (R78) -/

/-- The wake copies the flag alone, makes the screen ACTIVE and begins a lead-in frame. -/
def State.wake (scr : ScreenIx) (s : State) : State :=
  (s.modComp scr fun c =>
    { c with live := { c.live with settings := { c.live.settings with standby := false } }, run := .active }).startFrame
    scr true

end Sys2Proof.Machine
end

