-- ==== Sys2Proof/Machine/Audio.lean ====
section
/-! DEFINITION. Audio zones and the announce detector: the mix in stage order, clipping, delay lines, and block judgement (R138 to R151). -/

namespace Sys2Proof.Machine

/-! ## Rounding and saturation (R142 to R144) -/

/-- n / 1024 rounded to nearest, ties away from zero (08 The mix in stage order). -/
def round1024 (n : Int) : Int := n.sign * ((n.natAbs + 512) / 1024 : Nat)

/-- The saturation stage (R144). -/
def saturate (y : Int) : Int := max Config.sampleMin (min Config.sampleMax y)

/-! ## Samples handed to the zones (R98, R140) -/

/-- The sample a front end hands at this period: the head of its FIFO, zero when it is empty. -/
def FrontEnd.handed (f : FrontEnd) : Int × Int :=
  match f.fifo with
  | x :: _ => (x.left.toInt, x.right.toInt)
  | [] => (0, 0)

/-- What a source contributes on both channels at this period (R140). -/
def State.contributed (s : State) (an : Sample) : AudioSource → Int × Int
  | .input i => if (s.fronts.get i).audioPresent then (s.fronts.get i).handed else (0, 0)
  | .an => (an.toInt, an.toInt)

/-- The Live main source of a zone's follow screen (R141). -/
def State.followed (s : State) (z : Zone) : Option InputIx := (s.comps.get z.record.follow).live.main.source

/-- The contributions a zone's mix takes, each with its gain (R139). -/
def State.mixList (s : State) (z : Zone) : List Contribution :=
  match z.record.mode with
  | .off => []
  | .follow =>
    match s.followed z with
    | some i => [{ source := .input i, gain := 1024 }]
    | none => []
  | .mix => z.record.contributions

/-! ## The mix (R142 to R144) -/

/-- The sum of sample times gain, normalised (R142). -/
def normalised (xs : List (Int × Nat)) : Int := round1024 (xs.map fun x => x.1 * (x.2 : Int)).sum

/-- The duck stage of one channel (R143). -/
def duckStage (r : ZoneRecord) (a m : Int) : Int :=
  round1024 (m * (r.duckGain : Int)) + round1024 (a * (r.announceGain : Int))

/-- The level stage of one channel (R144). -/
def levelStage (r : ZoneRecord) (m : Int) : Int := round1024 (m * (r.level : Int))

/-- A zone is ducked at a period when its duck enable is on and the detector is ACTIVE (R143, R149). -/
def ducked (r : ZoneRecord) (d : Detector) : Bool := r.duckEnable && d.state == .active

/-- One channel before saturation (R142 to R144). -/
def channelLevel (r : ZoneRecord) (duck : Bool) (a : Int) (xs : List (Int × Nat)) : Int :=
  levelStage r (if duck then duckStage r a (normalised xs) else normalised xs)

/-- The y of a zone on both channels before saturation; an OFF zone writes 0 (R139). -/
def State.zoneLevel (s : State) (an : Sample) (z : Zone) : Int × Int :=
  match z.record.mode with
  | .off => (0, 0)
  | _ =>
    let list := s.mixList z
    let duck := ducked z.record s.detector
    (channelLevel z.record duck an.toInt (list.map fun c => ((s.contributed an c.source).1, c.gain)),
      channelLevel z.record duck an.toInt (list.map fun c => ((s.contributed an c.source).2, c.gain)))

/-! ## Delay line and clipping (R145, R146) -/

/-- The sample written `n` periods ago, 1 being the newest; samples before the line was cleared read as zero (R146). -/
def Zone.earlier (z : Zone) (n : Nat) : Int × Int := z.line.getD (n - 1) (0, 0)

/-- The output of a period whose saturated sample is `y`: read before the write, or `y` itself with no delay (R146). -/
def Zone.output (z : Zone) (y : Int × Int) : Int × Int :=
  if z.record.delay = 0 then y else z.earlier (z.record.delay * 48)

/-- At the first sample of a block the current mark moves into the previous one (R145, log 11). -/
def Zone.rotate (z : Zone) : Zone := { z with prevMark := z.curMark, curMark := false }

/-- The saturation stage changes y on either channel (R145). -/
def clips (y : Int × Int) : Bool := saturate y.1 != y.1 || saturate y.2 != y.2

/-- One sample period of a zone whose y before saturation is `y` (R144 to R146). -/
def Zone.sample (z : Zone) (y : Int × Int) : Zone :=
  let out := (saturate y.1, saturate y.2)
  { z with
    out := z.output out
    line := (out :: z.line).take Config.delaySamples
    clipCount := if clips y then countUp 65535 z.clipCount else z.clipCount
    curMark := z.curMark || clips y }

/-- A clipping sample with both marks clear raises AUDIO_CLIP (R145). -/
def Zone.raises (z : Zone) (y : Int × Int) : Bool := clips y && !z.curMark && !z.prevMark

/-- The zones in order. -/
def zonesInOrder : List ZoneIx := [0, 1, 2, 3]

/-- One sample period of zone `k`. -/
def State.sampleZone (an : Sample) (s : State) (k : ZoneIx) : State :=
  let z := if s.detector.pos = 0 then (s.zones.get k).rotate else s.zones.get k
  let y := s.zoneLevel an z
  let t := s.setZone k (z.sample y)
  if z.raises y then t.raiseBoth .audioClip (some k.val) else t

/-! ## The announce detector (R147 to R149) -/

/-- The block peak and position after one sample (R147). -/
def Detector.sample (d : Detector) (an : Sample) : Detector :=
  { d with
    peak := max d.peak an.toInt.natAbs
    pos := if d.pos + 1 < Config.blockSamples then d.pos + 1 else 0
    due := if d.pos + 1 < Config.blockSamples then d.due else true }

/-- The run count rises by one and stays at 255 (R148). -/
def Detector.nextRun (d : Detector) : Nat := countUp 255 d.run

/-- The judgement of a block (R148); the peak is then cleared and the position set to 0 (R147). -/
def Detector.judge (d : Detector) : Detector :=
  let loud := decide (d.settings.threshold ≤ d.peak)
  let e := { d with peak := 0, pos := 0, due := false }
  match d.state with
  | .idle =>
    if loud then
      if d.settings.nd ≤ d.nextRun then { e with state := .active, run := 0 } else { e with run := d.nextRun }
    else { e with run := 0 }
  | .active =>
    if loud then { e with run := 0 }
    else if d.settings.nc ≤ d.nextRun then { e with state := .idle, run := 0 }
    else { e with run := d.nextRun }

/-- A block judgement that is due, with ANNOUNCE at a change of state (R148); one that is not due changes nothing (log 10). -/
def State.judgeBlock (s : State) : State :=
  if s.detector.due then
    let d := s.detector.judge
    let t := s.setDetector d
    if d.state = s.detector.state then t else t.raiseAnnounce (d.state == .active)
  else s

/-! ## One sample period (R98, R140 to R147) -/

/-- Every front end removes the sample it hands (R98). -/
def State.popAudio (s : State) : State := { s with fronts := s.fronts.map fun f => { f with fifo := f.fifo.drop 1 } }

/-- A 48 kHz sample period: the four zones, then the FIFOs and the detector.
A judgement still due is taken first, so that it governs this block (R149, log 10). -/
def State.samplePeriod (an : Sample) (s : State) : State :=
  let t := zonesInOrder.foldl (State.sampleZone an) s.judgeBlock
  let u := t.popAudio
  u.setDetector (u.detector.sample an)

/-! ## SET_ZONE (R150, R151) -/

/-- The record is replaced and the clip state cleared; the line and the output stay. -/
def Zone.write (z : Zone) (r : ZoneRecord) : Zone :=
  { z with record := r, curMark := false, prevMark := false, clipCount := 0 }

/-- The zone's record and the shared detector settings (R132, R150, R151). -/
def State.applyZone (k : ZoneIx) (r : ZoneRecord) (d : DetectorSettings) (s : State) : State :=
  (s.setZone k ((s.zones.get k).write r)).setDetector { s.detector with settings := d }

/-- A wall reset: the record, the line and the clip state at their power-on values (R138, log 21). -/
def Zone.wallReset (z : Zone) : Zone := { Zone.powerOn with out := z.out }

end Sys2Proof.Machine
end

