-- ==== Sys2Proof/Machine/Operands.lean ====
section
/-! DEFINITION. Reading a request's body: kinds, lengths, fields, checks and clamps (R115, R116, R163, R178, Tables 11-1, 11-3 and 11-4).
`f` is the body from offset 2 on, so offset `n` of the tables is place `n - 2` of `f`. -/

namespace Sys2Proof.Machine

/-- The reasons of a NAK (Table 11-4). -/
inductive NakReason where
  | unknownKind | badLength | badIndex | badRange | badValue | duplicateSource | queueFull | queryBusy | notSenior
deriving DecidableEq, Repr

def NakReason.code : NakReason → Byte
  | .unknownKind => 0x01
  | .badLength => 0x02
  | .badIndex => 0x03
  | .badRange => 0x04
  | .badValue => 0x05
  | .duplicateSource => 0x06
  | .queueFull => 0x07
  | .queryBusy => 0x08
  | .notSenior => 0x09

/-! ## Kinds and lengths (Table 11-1) -/

/-- The three paths of R163. -/
inductive EditKind where
  | setMain | setInset | clearInset | clearScreen | swap | setScreen | group | pin | unpin | setInput | setZone
  | snapshotCounters
deriving DecidableEq, Repr

inductive QueryKind where
  | readScreen | readWindow | readInput | readZone | readPool | readCounters | readLink
deriving DecidableEq, Repr

inductive RequestKind where
  | edit (k : EditKind)
  | query (k : QueryKind)
  | identify
  | takeEvents
  | setEvents
  | wallReset
  | linkReset
deriving DecidableEq, Repr

def EditKind.code : EditKind → Byte
  | .setMain => 0x10
  | .setInset => 0x11
  | .clearInset => 0x12
  | .clearScreen => 0x13
  | .swap => 0x14
  | .setScreen => 0x15
  | .group => 0x16
  | .pin => 0x17
  | .unpin => 0x18
  | .setInput => 0x19
  | .setZone => 0x1A
  | .snapshotCounters => 0x1B

def QueryKind.code : QueryKind → Byte
  | .readScreen => 0x20
  | .readWindow => 0x21
  | .readInput => 0x22
  | .readZone => 0x23
  | .readPool => 0x24
  | .readCounters => 0x25
  | .readLink => 0x26

def RequestKind.code : RequestKind → Byte
  | .edit k => k.code
  | .query k => k.code
  | .identify => 0x30
  | .takeEvents => 0x31
  | .setEvents => 0x32
  | .wallReset => 0x33
  | .linkReset => 0x34

/-- Every request kind, in the order of Table 11-1. -/
def requestKinds : List RequestKind :=
  [.edit .setMain, .edit .setInset, .edit .clearInset, .edit .clearScreen, .edit .swap, .edit .setScreen, .edit .group,
    .edit .pin, .edit .unpin, .edit .setInput, .edit .setZone, .edit .snapshotCounters,
    .query .readScreen, .query .readWindow, .query .readInput, .query .readZone, .query .readPool,
    .query .readCounters, .query .readLink,
    .identify, .takeEvents, .setEvents, .wallReset, .linkReset]

/-- The request kind a kind byte names (R163, R178). -/
def requestKind (b : Byte) : Option RequestKind := requestKinds.find? fun k => k.code == b

/-! ## Fields (Table 11-3) -/

def u8 (f : List Byte) (n : Nat) : Nat := (f.getD n 0).toNat

/-- Multi-byte fields are big-endian. -/
def u16 (f : List Byte) (n : Nat) : Nat := u8 f n * 256 + u8 f (n + 1)

def u24 (f : List Byte) (n : Nat) : Nat := u16 f n * 256 + u8 f (n + 2)

/-- Signed fields are two's complement. -/
def s16 (f : List Byte) (n : Nat) : Int := (BitVec.ofNat 16 (u16 f n)).toInt

def flagBit (f : List Byte) (n : Nat) : Bool := u8 f n % 2 = 1

def clampNat (lo hi n : Nat) : Nat := max lo (min hi n)

def clampInt (lo hi n : Int) : Int := max lo (min hi n)

/-- A thing numbered from 1 to `n`. -/
def index (n v : Nat) : Option (Fin n) := if h : 1 ≤ v ∧ v ≤ n then some ⟨v - 1, by omega⟩ else none

/-- A window source: 0 none, 1 to 12 for I1 to I12. -/
def windowSource (v : Nat) : Option (Option InputIx) := if v = 0 then some none else (index 12 v).map some

/-- A contribution source: 1 to 12 for I1 to I12, 13 for AN. -/
def contributionSource (v : Nat) : Option AudioSource :=
  if v = 13 then some .an else (index 12 v).map .input

/-- A loop selection: 0 for the connector; a screen on I11 and I12 alone (R93, R115). -/
def loopSelection (i : InputIx) (v : Nat) : Option (Option ScreenIx) :=
  if v = 0 then some none else if 10 ≤ i.val then (index 16 v).map some else none

/-- Colour components are clamped into 0 to 1023 (R116). -/
def component (v : Nat) : Component := BitVec.ofNat 10 (min 1023 v)

def readColour (f : List Byte) (n : Nat) : Colour :=
  ⟨component (u16 f n), component (u16 f (n + 2)), component (u16 f (n + 4))⟩

/-- Crop margins are clamped into 0 to 1904 horizontally and 0 to 1064 vertically (R116). -/
def readCrop (f : List Byte) (n : Nat) : Crop :=
  { cl := clampNat 0 1904 (u16 f n), cr := clampNat 0 1904 (u16 f (n + 2))
    ct := clampNat 0 1064 (u16 f (n + 4)), cb := clampNat 0 1064 (u16 f (n + 6)) }

/-! ## Codes (Table 11-4) -/

def onOff : Nat → Option Bool
  | 0 => some false
  | 1 => some true
  | _ => none

def screenClass : Nat → Option ScreenClass
  | 0 => some .feature
  | 1 => some .ambient
  | 2 => some .economy
  | _ => none

def screenRate : Nat → Option Rate
  | 0 => some .hz50
  | 1 => some .hz59_94
  | 2 => some .hz60
  | _ => none

def patternOf : Nat → Option Pattern
  | 0 => some .none
  | 1 => some .bars
  | 2 => some .solid
  | 3 => some .idCard
  | 4 => some .ramp
  | _ => none

def criterionOf : Nat → Option Criterion
  | 0 => some .quick
  | 1 => some .steady
  | _ => none

def slateModeOf : Nat → Option SlateMode
  | 0 => some .fill
  | 1 => some .hold
  | _ => none

def counterKindOf : Nat → Option CounterKind
  | 0 => some .lineErrors
  | 1 => some .invalidFrames
  | 2 => some .drops
  | 3 => some .checkErrors
  | _ => none

def snapshotModeOf : Nat → Option SnapshotMode
  | 0 => some .auto
  | 1 => some .manual
  | _ => none

def zoneModeOf : Nat → Option ZoneMode
  | 0 => some .off
  | 1 => some .follow
  | 2 => some .mix
  | _ => none

def lossModeOf : Nat → Option LossMode
  | 0 => some .any
  | 1 => some .lossOnly
  | _ => none

def startModeOf : Nat → Option StartMode
  | 0 => some .any
  | 1 => some .startOnly
  | _ => none

/-! ## Lengths (Table 11-1, less kind and tag) -/

/-- The lengths of the fields that R178 allows. A SET_ZONE has 17 bytes and 3 for each of its 0 to 4 contributions. -/
def EditKind.lengthOk (f : List Byte) : EditKind → Bool
  | .setMain => f.length = 11
  | .setInset => f.length = 29
  | .clearInset => f.length = 3
  | .clearScreen => f.length = 2
  | .swap => f.length = 3
  | .setScreen => f.length = 12
  | .group => f.length = 13
  | .pin => f.length = 2
  | .unpin => f.length = 1
  | .setInput => f.length = 14
  | .setZone => 17 ≤ f.length && u8 f 16 ≤ 4 && f.length = 17 + 3 * u8 f 16
  | .snapshotCounters => f.length = 2

def QueryKind.lengthOk (f : List Byte) : QueryKind → Bool
  | .readScreen => f.length = 1
  | .readWindow => f.length = 1
  | .readInput => f.length = 1
  | .readZone => f.length = 1
  | .readPool => f.length = 0
  | .readCounters => f.length = 0
  | .readLink => f.length = 0

def RequestKind.lengthOk (f : List Byte) : RequestKind → Bool
  | .edit k => k.lengthOk f
  | .query k => k.lengthOk f
  | .identify => f.length = 0
  | .takeEvents => f.length = 0
  | .setEvents => f.length = 5
  | .wallReset => f.length = 0
  | .linkReset => f.length = 0

/-! ## Edits: checks in the order BAD_INDEX, BAD_RANGE, BAD_VALUE, DUPLICATE_SOURCE (R115), then clamps (R116) -/

def readSetMain (f : List Byte) : Except NakReason Edit :=
  match index 16 (u8 f 1), windowSource (u8 f 2) with
  | some s, some src => .ok (.setMain (flagBit f 0) s { source := src, crop := readCrop f 3 })
  | _, _ => .error .badIndex

/-- The fields of an inset request after clamping. -/
def readInsetRequest (src : Option InputIx) (f : List Byte) : InsetRequest :=
  { source := src, crop := readCrop f 4
    x := clampInt (-1919) 1919 (s16 f 12), y := clampInt (-1079) 1079 (s16 f 14)
    w := clampNat 16 3840 (u16 f 16), h := clampNat 16 2160 (u16 f 18)
    opacity := clampNat 0 256 (u16 f 20), border := clampNat 0 15 (u8 f 22), colour := readColour f 23 }

def readSetInset (f : List Byte) : Except NakReason Edit :=
  match index 16 (u8 f 1), index 3 (u8 f 2), windowSource (u8 f 3) with
  | some s, some k, some src => .ok (.setInset (flagBit f 0) s k (readInsetRequest src f))
  | _, _, _ => .error .badIndex

def readClearInset (f : List Byte) : Except NakReason Edit :=
  match index 16 (u8 f 1), index 3 (u8 f 2) with
  | some s, some k => .ok (.clearInset (flagBit f 0) s k)
  | _, _ => .error .badIndex

def readClearScreen (f : List Byte) : Except NakReason Edit :=
  match index 16 (u8 f 1) with
  | some s => .ok (.clearScreen (flagBit f 0) s)
  | none => .error .badIndex

def readSwap (f : List Byte) : Except NakReason Edit :=
  match index 16 (u8 f 1), index 3 (u8 f 2) with
  | some s, some k => .ok (.swap (flagBit f 0) s k)
  | _, _ => .error .badIndex

def readSetScreen (f : List Byte) : Except NakReason Edit :=
  match index 16 (u8 f 1) with
  | none => .error .badIndex
  | some s =>
    match screenClass (u8 f 2), screenRate (u8 f 3), onOff (u8 f 4), patternOf (u8 f 5) with
    | some c, some r, some sb, some p =>
      .ok (.setScreen (flagBit f 0) s { cls := c, rate := r, standby := sb, pattern := p, background := readColour f 6 })
    | _, _, _, _ => .error .badValue

/-- A GROUP's value byte is an index only for MAIN, and an unknown sub-kind is refused before its value is read (R178). -/
def readGroup (f : List Byte) : Except NakReason Edit :=
  match index 16 (u8 f 0), index 16 (u8 f 1) with
  | some base, some limit =>
    let make (c : GroupChange) : Except NakReason Edit := .ok (.group base limit (flagBit f 2) c)
    let orRange (r : Except NakReason Edit) : Except NakReason Edit := if limit < base then .error .badRange else r
    match u8 f 3 with
    | 0 =>
      match windowSource (u8 f 4) with
      | some src => orRange (make (.main { source := src, crop := readCrop f 5 }))
      | none => .error .badIndex
    | 1 =>
      orRange (match onOff (u8 f 4) with
        | some on => make (.standby on)
        | none => .error .badValue)
    | 2 =>
      orRange (match patternOf (u8 f 4) with
        | some p => make (.pattern p)
        | none => .error .badValue)
    | _ => orRange (.error .badValue)
  | _, _ => .error .badIndex

def readPin (f : List Byte) : Except NakReason Edit :=
  match index 16 (u8 f 0) with
  | some s => .ok (.pin s (clampNat 0 240 (u8 f 1)))
  | none => .error .badIndex

def readUnpin (f : List Byte) : Except NakReason Edit :=
  match index 16 (u8 f 0) with
  | some s => .ok (.unpin s)
  | none => .error .badIndex

def readSetInput (f : List Byte) : Except NakReason Edit :=
  match index 12 (u8 f 0) with
  | none => .error .badIndex
  | some i =>
    match loopSelection i (u8 f 10) with
    | none => .error .badIndex
    | some lp =>
      match criterionOf (u8 f 1), slateModeOf (u8 f 2), onOff (u8 f 11), counterKindOf (u8 f 12), snapshotModeOf (u8 f 13) with
      | some cr, some sm, some ck, some kind, some mode =>
        .ok (.setInput i
          { criterion := cr, slateMode := sm, holdTime := clampNat 0 60 (u8 f 3), fillColour := readColour f 4
            loop := lp, checkerOn := ck, counterKind := kind, snapshotMode := mode })
      | _, _, _, _, _ => .error .badValue

/-- The contribution entries from place `at` on; gains are clamped (R116). -/
def readContributions (f : List Byte) : Nat → Nat → Option (List Contribution)
  | _, 0 => some []
  | place, n + 1 =>
    match contributionSource (u8 f place), readContributions f (place + 3) n with
    | some src, some rest => some ({ source := src, gain := clampNat 0 2048 (u16 f (place + 1)) } :: rest)
    | _, _ => none

def noSourceTwice (cs : List Contribution) : Bool := decide (cs.map (·.source)).Nodup

def readSetZone (f : List Byte) : Except NakReason Edit :=
  match index 4 (u8 f 0), index 16 (u8 f 2), readContributions f 17 (u8 f 16) with
  | some z, some follow, some cs =>
    match zoneModeOf (u8 f 1), onOff (u8 f 6) with
    | some mode, some duck =>
      if noSourceTwice cs then
        .ok (.setZone z
          { mode := mode, follow := follow, contributions := cs, level := clampNat 0 1024 (u16 f 3)
            delay := clampNat 0 200 (u8 f 5), duckEnable := duck, duckGain := clampNat 0 1024 (u16 f 7)
            announceGain := clampNat 0 2048 (u16 f 9) }
          { threshold := clampNat 0 8388607 (u24 f 11), nd := clampNat 1 16 (u8 f 14), nc := clampNat 1 255 (u8 f 15) })
      else .error .duplicateSource
    | _, _ => .error .badValue
  | _, _, _ => .error .badIndex

/-- A set bit above bit 11 of an input set is a bad index (R178). -/
def readSnapshotCounters (f : List Byte) : Except NakReason Edit :=
  if u16 f 0 < 4096 then .ok (.snapshotCounters (BitVec.ofNat 12 (u16 f 0))) else .error .badIndex

/-- The field checks and clamps of an edit (R115, R116). -/
def readEdit (k : EditKind) (f : List Byte) : Except NakReason Edit :=
  match k with
  | .setMain => readSetMain f
  | .setInset => readSetInset f
  | .clearInset => readClearInset f
  | .clearScreen => readClearScreen f
  | .swap => readSwap f
  | .setScreen => readSetScreen f
  | .group => readGroup f
  | .pin => readPin f
  | .unpin => readUnpin f
  | .setInput => readSetInput f
  | .setZone => readSetZone f
  | .snapshotCounters => readSnapshotCounters f

/-- The query a body names; none is an index out of range (R133, R163). -/
def readQuery (k : QueryKind) (f : List Byte) : Option Query :=
  match k with
  | .readScreen => (index 16 (u8 f 0)).map .screen
  | .readWindow => (index 64 (u8 f 0)).map .window
  | .readInput => (index 12 (u8 f 0)).map .input
  | .readZone => (index 4 (u8 f 0)).map .zone
  | .readPool => some .pool
  | .readCounters => some .counters
  | .readLink => some .link

/-- The enables of SET_EVENTS: bit `k - 1` for the `k`-th kind; bits 12 to 15 are disregarded (R178). -/
def readEnables (f : List Byte) : Table Bool 12 := Table.tab 12 fun k => (u16 f 0).testBit k.val

/-- The kind code a queued edit's refusal is recorded under (R125, Table 11-5). -/
def Edit.kind : Edit → EditKind
  | .setMain _ _ _ => .setMain
  | .setInset _ _ _ _ => .setInset
  | .clearInset _ _ _ => .clearInset
  | .clearScreen _ _ => .clearScreen
  | .swap _ _ _ => .swap
  | .setScreen _ _ _ => .setScreen
  | .group _ _ _ _ => .group
  | .pin _ _ => .pin
  | .unpin _ => .unpin
  | .setInput _ _ => .setInput
  | .setZone _ _ _ => .setZone
  | .snapshotCounters _ => .snapshotCounters

end Sys2Proof.Machine
end

