-- ==== Sys2Proof/Machine/Report.lean ====
section
/-! DEFINITION. The bodies of the frames the part sends: ACK, NAK, RESULT, EVENTS, IDENTITY and RESET_DONE (R14, R15, R55, R100, R101, R110, R152, R167, R169, R176, R179, Tables 11-2 to 11-11). -/

namespace Sys2Proof.Machine

/-! ## Numbers (Table 11-3): big-endian, signed ones in two's complement -/

def b8 (n : Nat) : Byte := BitVec.ofNat 8 n

def be16 (n : Nat) : List Byte := [b8 (n / 256), b8 n]

def be24 (n : Nat) : List Byte := [b8 (n / 65536), b8 (n / 256), b8 n]

def be32 (n : Nat) : List Byte := [b8 (n / 16777216), b8 (n / 65536), b8 (n / 256), b8 n]

def signed16 (n : Int) : List Byte := be16 (BitVec.ofInt 16 n).toNat

/-- Marks and indications: 0 clear, 1 set (Table 11-4). -/
def mark (x : Bool) : Byte := if x then 1 else 0

def colourBytes (x : Colour) : List Byte := be16 x.r.toNat ++ be16 x.g.toNat ++ be16 x.b.toNat

def cropBytes (x : Crop) : List Byte := be16 x.cl ++ be16 x.cr ++ be16 x.ct ++ be16 x.cb

/-- A thing numbered from 1, 0 for none. -/
def numberOf {n : Nat} (x : Option (Fin n)) : Byte :=
  match x with
  | some i => b8 (i.val + 1)
  | none => 0

/-! ## Codes (Table 11-4) -/

def ScreenClass.code : ScreenClass → Byte
  | .feature => 0
  | .ambient => 1
  | .economy => 2

def Rate.code : Rate → Byte
  | .hz50 => 0
  | .hz59_94 => 1
  | .hz60 => 2

def Pattern.code : Pattern → Byte
  | .none => 0
  | .bars => 1
  | .solid => 2
  | .idCard => 3
  | .ramp => 4

def Service.code : Service → Byte
  | .off => 0
  | .offscreen => 1
  | .exact => 2
  | .scaled => 3
  | .waiting => 4
  | .granted => 5
  | .economy => 6

def RunState.code : RunState → Byte
  | .active => 0
  | .standby => 1

def MonitorState.code : MonitorState → Byte
  | .lost => 0
  | .acquiring => 1
  | .present => 2

def Criterion.code : Criterion → Byte
  | .quick => 0
  | .steady => 1

def SlateMode.code : SlateMode → Byte
  | .fill => 0
  | .hold => 1

def SlateState.code : SlateState → Byte
  | .idle => 0
  | .holding => 1
  | .fill => 2

def CheckerState.code : CheckerState → Byte
  | .off => 0
  | .hunt => 1
  | .sync => 2

def CounterKind.code : CounterKind → Byte
  | .lineErrors => 0
  | .invalidFrames => 1
  | .drops => 2
  | .checkErrors => 3

def SnapshotMode.code : SnapshotMode → Byte
  | .auto => 0
  | .manual => 1

def SlotState.code : SlotState → Byte
  | .free => 0
  | .filling => 1
  | .ready => 2

def Scaler.code : Scaler → Byte
  | .free => 0
  | .granted _ => 1
  | .active _ => 2

/-- The window number of a scaler record, 0 when FREE (R38). -/
def Scaler.window : Scaler → Option WallWindow
  | .free => none
  | .granted w => some w
  | .active w => some w

def ZoneMode.code : ZoneMode → Byte
  | .off => 0
  | .follow => 1
  | .mix => 2

def AudioSource.code : AudioSource → Byte
  | .input i => b8 (i.val + 1)
  | .an => 13

def DetectorState.code : DetectorState → Byte
  | .idle => 0
  | .active => 1

def Phase.code : Phase → Byte
  | .hunt => 0
  | .length => 1
  | .body _ _ _ => 2
  | .check _ _ _ => 3
  | .complete _ => 4

def linkCode : Link → Byte
  | .a => 1
  | .b => 2

/-- Pin owner and hold holder. -/
def ownerCode : Option Link → Byte
  | some l => linkCode l
  | none => 0

def rankCode : Rank → Byte
  | .equal => 0
  | .aSenior => 1
  | .bSenior => 2

def lineRateCode : LineRate → Byte
  | .baud115200 => 0
  | .baud460800 => 1

def RefusalReason.code : RefusalReason → Byte
  | .pinned => 0x10
  | .held => 0x11

/-! ## Immediate replies (R163, R179, Table 11-2) -/

def ackBody (tag kind : Byte) : List Byte := [0x80, tag, kind]

def nakBody (tag kind : Byte) (reason : NakReason) : List Byte := [0x81, tag, kind, reason.code]

def resetDoneBody (tag : Byte) : List Byte := [0x85, tag]

/-- IDENTITY (R167). -/
def State.identityBody (s : State) (l : Link) (tag : Byte) : List Byte :=
  [0x84, tag] ++ be16 Config.partCode ++
    [b8 Config.inputCount, b8 Config.screenCount, b8 Config.zoneCount, b8 Config.scalerCount,
      linkCode l, rankCode s.rank, lineRateCode (s.link l).rate]

/-- The latch set of EVENTS: bit k − 1 for the k-th kind (Table 11-5). -/
def EventState.latchBits (e : EventState) : Nat := ((List.finRange 12).map fun k => if e.latches.get k then 2 ^ k.val else 0).sum

/-- The index set of a kind. -/
def EventState.indices (e : EventState) (k : EventKind) : Nat := (e.sets.get k.ix).toNat

def recordBytes : Option RefusalRecord → List Byte
  | some x => [x.kind, b8 (x.screen.val + 1), x.reason.code]
  | none => [0, 0, 0]

/-- EVENTS (R176, Table 11-5). -/
def LinkState.eventsBody (x : LinkState) (tag : Byte) : List Byte :=
  [0x83, tag] ++ be16 x.events.latchBits ++
    be16 (x.events.indices .inputState) ++ be16 (x.events.indices .rasterChange) ++
    be16 (x.events.indices .checkSync) ++ be16 (x.events.indices .counterOverflow) ++
    be16 (x.events.indices .scalerWait) ++ be16 (x.events.indices .pinTaken) ++
    be16 (x.events.indices .pinLapsed) ++ be16 (x.events.indices .holdExpired) ++
    [b8 (x.events.indices .audioClip)] ++ recordBytes x.record ++ [b8 x.refusals]

/-! ## RESULT contents -/

/-- An inset entry (Table 11-6). -/
def insetBytes (r : InsetRequest) : List Byte :=
  [numberOf r.source] ++ cropBytes r.crop ++ signed16 r.x ++ signed16 r.y ++ be16 r.w ++ be16 r.h ++
    be16 r.opacity ++ [b8 r.border] ++ colourBytes r.colour

/-- READ_SCREEN (R14, Table 11-6). -/
def State.screenContent (s : State) (scr : ScreenIx) : List Byte :=
  let r := s.staged.get scr
  let c := s.comps.get scr
  let p := s.pins.get scr
  let h := s.holds.get scr
  [b8 (scr.val + 1)] ++
    [r.settings.cls.code, r.settings.rate.code, mark r.settings.standby, r.settings.pattern.code] ++
    colourBytes r.settings.background ++
    [numberOf r.main.source] ++ cropBytes r.main.crop ++
    insetBytes (r.insets.get 0) ++ insetBytes (r.insets.get 1) ++ insetBytes (r.insets.get 2) ++
    [c.run.code, mark (s.changePending scr)] ++
    (windowsInOrder.map fun k => (c.plans.get k).service.code) ++
    [ownerCode p.owner] ++ be16 p.lapse ++ [ownerCode h.holder] ++ be16 h.ms

/-- The Live request of a window as an inset entry; a main window reports the whole canvas (R15). -/
def Compositor.requestEntry (c : Compositor) (k : WindowIx) : InsetRequest :=
  match insetOf k with
  | some j => c.live.insets.get j
  | none =>
    { source := c.live.main.source, crop := c.live.main.crop, x := 0, y := 0, w := Config.canvasW, h := Config.canvasH
      opacity := 256, border := 0, colour := c.live.settings.background }

def rectBytes (r : Rect) : List Byte := signed16 r.x ++ signed16 r.y ++ be16 r.w ++ be16 r.h

/-- A plan (R12, Table 11-7). -/
def planBytes (q : Plan) : List Byte :=
  [q.service.code, numberOf q.source] ++ be16 q.ws ++ be16 q.hs ++
    be16 q.cl ++ be16 q.ct ++ be16 q.wc ++ be16 q.hc ++ [mark q.cropIgnored] ++ be16 q.sh ++ be16 q.sv ++
    rectBytes q.p ++ rectBytes q.v ++ be32 q.ph0 ++ be32 q.pv0 ++ [b8 q.d, numberOf q.slot, numberOf q.scaler]

/-- READ_WINDOW (R15, Table 11-7). -/
def State.windowContent (s : State) (w : WallWindow) : List Byte :=
  let c := s.comps.get (screenOf w)
  [b8 (w.val + 1), b8 ((screenOf w).val + 1), b8 (windowOf w).val, c.run.code] ++
    insetBytes (c.requestEntry (windowOf w)) ++ planBytes (c.plans.get (windowOf w))

/-- A format, 0 when absent (R100, R179). -/
def formatBytes : Option Format → List Byte
  | some x => be16 x.width ++ be16 x.height ++ be32 x.period
  | none => [0, 0, 0, 0, 0, 0, 0, 0]

/-- Hold remaining and the indefinite indication (R100). -/
def slateTimerBytes : HoldTimer → List Byte
  | .stopped => [0, 0, 0]
  | .running ms => be16 ms ++ [0]
  | .indefinite => [0, 0, 1]

/-- A slot; its raster is 0 × 0 when it is not READY (R110). -/
def slotBytes (x : Slot) : List Byte :=
  [x.state.code] ++ be16 x.seq ++
    (if x.state = .ready then be16 x.width ++ be16 x.height else [0, 0, 0, 0]) ++ [b8 x.readers]

/-- Counter items as READ_INPUT gives them (Table 11-8). -/
def counterBytes (f : FrontEnd) : List Byte :=
  [f.counterKind.code, f.snapshotMode.code] ++ be16 f.count ++ [mark f.countOver] ++ be16 f.snap ++ [mark f.snapOver]

/-- READ_INPUT (R100, R110, Table 11-8). -/
def State.inputContent (s : State) (i : InputIx) : List Byte :=
  let f := s.fronts.get i
  let r := s.rings.get i
  [b8 (i.val + 1), f.monitor.code, f.criterion.code] ++
    formatBytes f.candidate ++ [b8 f.acqCount] ++ formatBytes f.latched ++ [b8 f.missCount] ++
    [f.slateMode.code, b8 f.holdTime] ++ colourBytes f.fillColour ++ [f.slate.code] ++ slateTimerBytes f.slateTimer ++
    [numberOf f.loop] ++ [f.checker.code, b8 f.runCount, b8 f.blockPos, b8 f.blockErrors] ++ counterBytes f ++
    [mark f.audioPresent] ++ be16 f.fifo.length ++ be16 f.captureCount ++
    slotBytes (r.slots.get 0) ++ slotBytes (r.slots.get 1) ++ slotBytes (r.slots.get 2) ++ slotBytes (r.slots.get 3) ++
    [numberOf r.newest]

def contributionBytes (c : Contribution) : List Byte := [c.source.code] ++ be16 c.gain

/-- READ_ZONE (R152, Table 11-9). -/
def State.zoneContent (s : State) (k : ZoneIx) : List Byte :=
  let z := s.zones.get k
  let r := z.record
  let d := s.detector
  [b8 (k.val + 1), r.mode.code, b8 (r.follow.val + 1), b8 r.contributions.length] ++
    r.contributions.flatMap contributionBytes ++
    be16 r.level ++ [b8 r.delay, mark r.duckEnable] ++ be16 r.duckGain ++ be16 r.announceGain ++
    [numberOf (if r.mode = .follow then s.followed z else none), mark (ducked r d)] ++
    [mark z.curMark, mark z.prevMark] ++ be16 z.clipCount ++
    [d.state.code, b8 d.run] ++ be16 d.pos ++ be24 d.settings.threshold ++ [b8 d.settings.nd, b8 d.settings.nc]

def scalerBytes (x : Scaler) : List Byte := [x.code, numberOf x.window]

/-- A list of windows: its count, then the window numbers (R55). -/
def windowListBytes (ws : List WallWindow) : List Byte := [b8 ws.length] ++ ws.map fun w => b8 (w.val + 1)

/-- READ_POOL (R55, Table 11-10). -/
def State.poolContent (s : State) : List Byte :=
  s.pool.scalers.items.flatMap scalerBytes ++ windowListBytes s.pool.waiting ++ windowListBytes s.pool.feature ++
    windowListBytes s.pool.ambient

/-- Counter items as READ_COUNTERS gives them (Table 11-11). -/
def countersEntry (f : FrontEnd) : List Byte :=
  [f.counterKind.code, f.snapshotMode.code] ++ be16 f.snap ++ [mark f.snapOver] ++ be16 f.count ++ [mark f.countOver]

/-- READ_COUNTERS (R101, Table 11-11). -/
def State.countersContent (s : State) : List Byte := s.fronts.items.flatMap countersEntry

/-- READ_LINK (R169, Table 11-11). -/
def State.linkContent (s : State) (l : Link) : List Byte :=
  let x := s.link l
  [linkCode l, rankCode s.rank, lineRateCode x.rate] ++
    [b8 x.errors.badCheck, b8 x.errors.length, b8 x.errors.timeout, b8 x.errors.overrun, b8 x.errors.framing,
      b8 x.errors.breaks] ++
    [b8 (fifoLevel x.fifo), mark (x.fifo.any fun item => item == .cut), x.parser.phase.code, b8 x.edits.length,
      b8 x.replies.length]

/-- The kind byte a RESULT echoes (R179). -/
def Query.kind : Query → QueryKind
  | .screen _ => .readScreen
  | .window _ => .readWindow
  | .input _ => .readInput
  | .zone _ => .readZone
  | .pool => .readPool
  | .counters => .readCounters
  | .link => .readLink

/-- The content of a RESULT, read at the answer event (R134). -/
def State.resultContent (s : State) (l : Link) : Query → List Byte
  | .screen scr => s.screenContent scr
  | .window w => s.windowContent w
  | .input i => s.inputContent i
  | .zone k => s.zoneContent k
  | .pool => s.poolContent
  | .counters => s.countersContent
  | .link => s.linkContent l

/-- A RESULT body (Table 11-2). -/
def State.resultBody (s : State) (l : Link) (tag : Byte) (q : Query) : List Byte :=
  [0x82, tag, q.kind.code] ++ s.resultContent l q

end Sys2Proof.Machine
end

