-- ==== Sys2Proof/Machine/Editor.lean ====
section
/-! DEFINITION. The Scene Editor: choice of the link, the gate, holds, refusals, pins, groups and answers (R114 to R134). -/

namespace Sys2Proof.Machine

/-! ## Taking edits in turn (R117, R118) -/

/-- The head edit of a link when no barrier stands ahead of it. -/
def LinkState.eligible (x : LinkState) : Option Edit := if x.barrier = some 0 then none else x.edits.head?

/-- The link and the edit of the next application: alternation when both have one. -/
def State.chosen (s : State) : Option (Link × Edit) :=
  match s.linkA.eligible, s.linkB.eligible, s.marker with
  | some e, none, _ => some (.a, e)
  | none, some e, _ => some (.b, e)
  | some e, some _, .b => some (.a, e)
  | some _, some e, .a => some (.b, e)
  | none, none, _ => none

/-- An application removes the head edit, moves the queue toward its barrier, and moves the marker. -/
def State.takeEdit (s : State) (l : Link) : State :=
  (s.modLink l fun x => { x with edits := x.edits.tail, barrier := x.barrier.map (· - 1) }).setMarker l

/-! ## The gate (R122) -/

/-- The pin test: the other link owns the pin and this link is not senior to it. -/
def State.pinStops (s : State) (l : Link) (scr : ScreenIx) : Bool :=
  (s.pins.get scr).owner == some l.other && !senior s.rank l

/-- The reason a screen edit is refused for; none when it is admitted. -/
def State.gate (s : State) (l : Link) (scr : ScreenIx) (hold : Bool) : Option RefusalReason :=
  if s.pinStops l scr then some .pinned
  else if hold && (s.holds.get scr).holder == some l.other then some .held
  else none

/-! ## Refusals (R125, R130) -/

/-- The link's record of refusals of one edit on the screens listed: the record takes the first when it is empty, and the count rises by one for each. -/
def LinkState.recordRefusals (x : LinkState) (kind : EditKind) (first : ScreenIx) (n : Nat) (reason : RefusalReason) : LinkState :=
  { x with
    record := match x.record with
      | some r => some r
      | none => some { kind := kind.code, screen := first, reason := reason }
    refusals := min 255 (x.refusals + n) }

/-- A refusal at application on one or more screens, first one first; with none nothing happens. -/
def State.refuse (s : State) (l : Link) (kind : EditKind) (screens : List ScreenIx) (reason : RefusalReason) : State :=
  match screens with
  | [] => s
  | scr :: rest =>
    (s.modLink l fun x => x.recordRefusals kind scr (rest.length + 1) reason).raise l .editRefused none

/-! ## Screen edits (R119 to R121, R123) -/

/-- What an admitted screen edit from link `l` does to the hold of its screen (R123). -/
def Hold.afterEdit (h : Hold) (l : Link) (hold : Bool) : Hold :=
  if hold then { holder := some l, ms := Config.holdMs }
  else if h.holder = some l then .clear
  else h

/-- Write a Staged record; an edit that turns the standby flag off wakes a screen in STANDBY (R78, R121). -/
def State.writeStaged (s : State) (scr : ScreenIx) (r : ScreenRecord) : State :=
  let t := s.setStaged scr r
  if (s.staged.get scr).settings.standby ∧ r.settings.standby = false ∧ (s.comps.get scr).run = .standby then t.wake scr
  else t

/-- A screen edit at its application: the gate, the write, and the hold. -/
def State.screenEdit (s : State) (l : Link) (kind : EditKind) (hold : Bool) (scr : ScreenIx)
    (write : ScreenRecord → ScreenRecord) : State :=
  match s.gate l scr hold with
  | some reason => s.refuse l kind [scr] reason
  | none =>
    (s.writeStaged scr (write (s.staged.get scr))).setHold scr ((s.holds.get scr).afterEdit l hold)

def ScreenRecord.setMain (req : MainRequest) (r : ScreenRecord) : ScreenRecord := { r with main := req }

def ScreenRecord.setInset (k : InsetIx) (req : InsetRequest) (r : ScreenRecord) : ScreenRecord :=
  { r with insets := r.insets.set k req }

/-- The source alone becomes none. -/
def ScreenRecord.clearInset (k : InsetIx) (r : ScreenRecord) : ScreenRecord :=
  { r with insets := r.insets.modify k fun q => { q with source := none } }

def ScreenRecord.clearAll (r : ScreenRecord) : ScreenRecord :=
  { r with main := { r.main with source := none }, insets := r.insets.map fun q => { q with source := none } }

/-- Source and crop change places; rectangle, opacity and border stay (R120). -/
def ScreenRecord.swap (k : InsetIx) (r : ScreenRecord) : ScreenRecord :=
  let q := r.insets.get k
  { r with
    main := { source := q.source, crop := q.crop }
    insets := r.insets.set k { q with source := r.main.source, crop := r.main.crop } }

def ScreenRecord.setSettings (x : Settings) (r : ScreenRecord) : ScreenRecord := { r with settings := x }

/-! ## Groups (R129, R130) -/

/-- The set of a group in ascending order. -/
def groupScreens (base limit : ScreenIx) (invert : Bool) : List ScreenIx :=
  (List.finRange 16).filter fun k => (decide (base ≤ k) && decide (k ≤ limit)) != invert

def ScreenRecord.groupChange (c : GroupChange) (r : ScreenRecord) : ScreenRecord :=
  match c with
  | .main req => { r with main := req }
  | .standby on => { r with settings := { r.settings with standby := on } }
  | .pattern p => { r with settings := { r.settings with pattern := p } }

/-- The screens that pass the pin test are written in ascending order, and the others are one refused application. -/
def State.groupEdit (s : State) (l : Link) (screens : List ScreenIx) (c : GroupChange) : State :=
  let skipped := screens.filter fun k => s.pinStops l k
  let admitted := screens.filter fun k => !s.pinStops l k
  (admitted.foldl (fun t k => t.writeStaged k ((t.staged.get k).groupChange c)) s).refuse l .group skipped .pinned

/-! ## Pins (R126, R127) -/

/-- A pin whose owner is the other link is lost to the senior link with PIN_TAKEN, and refused otherwise. -/
def State.pinEdit (s : State) (l : Link) (kind : EditKind) (scr : ScreenIx) (pin : Pin) : State :=
  if (s.pins.get scr).owner = some l.other then
    if senior s.rank l then (s.setPin scr pin).raise l.other .pinTaken (some scr.val)
    else s.refuse l kind [scr] .pinned
  else s.setPin scr pin

/-- PIN (R126). -/
def State.pinScreen (s : State) (l : Link) (scr : ScreenIx) (minutes : Nat) : State :=
  s.pinEdit l .pin scr { owner := some l, lapse := minutes * Config.pinMinute }

/-- UNPIN; on a screen without a pin it changes nothing (R127). -/
def State.unpinScreen (s : State) (l : Link) (scr : ScreenIx) : State :=
  if (s.pins.get scr).owner = none then s else s.pinEdit l .unpin scr .clear

/-! ## Queries (R133, R134) -/

/-- The query that can be answered: it is WAITING and no edit stands ahead of its barrier. -/
def LinkState.answerable (x : LinkState) : Option (Byte × Query) :=
  match x.query, x.barrier with
  | .waiting tag q, some 0 => some (tag, q)
  | _, _ => none

/-- The RESULT enters the reply queue when a place is free, and waits in the slot otherwise. -/
def LinkState.placeResult (x : LinkState) (body : List Byte) : LinkState :=
  if x.replyRoom then { x with query := .empty, barrier := none }.enterReply body
  else { x with query := .answered body, barrier := none }

/-- The answer event of a link. -/
def State.answer (s : State) (l : Link) : State :=
  match (s.link l).answerable with
  | some (tag, q) => s.modLink l fun x => x.placeResult (s.resultBody l tag q)
  | none => s

/-! ## Holds (R124) -/

/-- The expiry of a hold, with HOLD_EXPIRED on its holder (R124). -/
def State.expireHold (s : State) (scr : ScreenIx) : State :=
  match (s.holds.get scr).holder with
  | some l => (s.setHold scr .clear).raise l .holdExpired (some scr.val)
  | none => s

end Sys2Proof.Machine
end

