-- ==== Sys2Proof/Machine/Applications.lean ====
section
/-! DEFINITION. The applications, each of the edit alternation chooses when it is of the kind named, and the answer events (R117 to R134). -/

namespace Sys2Proof.Machine

/-- APPLY_SET_MAIN (R119): when the edit that alternation chooses is of this kind (R117, log 3, log 8). -/
def execApplySetMain (s : State) : Host.Outcome State Fault Refusal :=
  match s.chosen with
  | some (l, .setMain hold scr req) => .next ((s.takeEdit l).screenEdit l .setMain hold scr (ScreenRecord.setMain req))
  | _ => .next s

/-- APPLY_SET_INSET (R119): when the edit that alternation chooses is of this kind (R117, log 3, log 8). -/
def execApplySetInset (s : State) : Host.Outcome State Fault Refusal :=
  match s.chosen with
  | some (l, .setInset hold scr k req) => .next ((s.takeEdit l).screenEdit l .setInset hold scr (ScreenRecord.setInset k req))
  | _ => .next s

/-- APPLY_CLEAR_INSET (R119): when the edit that alternation chooses is of this kind (R117, log 3, log 8). -/
def execApplyClearInset (s : State) : Host.Outcome State Fault Refusal :=
  match s.chosen with
  | some (l, .clearInset hold scr k) => .next ((s.takeEdit l).screenEdit l .clearInset hold scr (ScreenRecord.clearInset k))
  | _ => .next s

/-- APPLY_CLEAR_SCREEN (R119): when the edit that alternation chooses is of this kind (R117, log 3, log 8). -/
def execApplyClearScreen (s : State) : Host.Outcome State Fault Refusal :=
  match s.chosen with
  | some (l, .clearScreen hold scr) => .next ((s.takeEdit l).screenEdit l .clearScreen hold scr ScreenRecord.clearAll)
  | _ => .next s

/-- APPLY_SWAP (R120): when the edit that alternation chooses is of this kind (R117, log 3, log 8). -/
def execApplySwap (s : State) : Host.Outcome State Fault Refusal :=
  match s.chosen with
  | some (l, .swap hold scr k) => .next ((s.takeEdit l).screenEdit l .swap hold scr (ScreenRecord.swap k))
  | _ => .next s

/-- APPLY_SET_SCREEN (R121): when the edit that alternation chooses is of this kind (R117, log 3, log 8). -/
def execApplySetScreen (s : State) : Host.Outcome State Fault Refusal :=
  match s.chosen with
  | some (l, .setScreen hold scr x) => .next ((s.takeEdit l).screenEdit l .setScreen hold scr (ScreenRecord.setSettings x))
  | _ => .next s

/-- APPLY_GROUP (R129, R130): when the edit that alternation chooses is of this kind (R117, log 3, log 8). -/
def execApplyGroup (s : State) : Host.Outcome State Fault Refusal :=
  match s.chosen with
  | some (l, .group base limit invert c) => .next ((s.takeEdit l).groupEdit l (groupScreens base limit invert) c)
  | _ => .next s

/-- APPLY_PIN (R126): when the edit that alternation chooses is of this kind (R117, log 3, log 8). -/
def execApplyPin (s : State) : Host.Outcome State Fault Refusal :=
  match s.chosen with
  | some (l, .pin scr minutes) => .next ((s.takeEdit l).pinScreen l scr minutes)
  | _ => .next s

/-- APPLY_UNPIN (R127): when the edit that alternation chooses is of this kind (R117, log 3, log 8). -/
def execApplyUnpin (s : State) : Host.Outcome State Fault Refusal :=
  match s.chosen with
  | some (l, .unpin scr) => .next ((s.takeEdit l).unpinScreen l scr)
  | _ => .next s

/-- APPLY_SET_INPUT (R131): when the edit that alternation chooses is of this kind (R117, log 3, log 8). -/
def execApplySetInput (s : State) : Host.Outcome State Fault Refusal :=
  match s.chosen with
  | some (l, .setInput i x) => .next ((s.takeEdit l).applyInputSettings i x)
  | _ => .next s

/-- APPLY_SET_ZONE (R151): when the edit that alternation chooses is of this kind (R117, log 3, log 8). -/
def execApplySetZone (s : State) : Host.Outcome State Fault Refusal :=
  match s.chosen with
  | some (l, .setZone k r d) => .next ((s.takeEdit l).applyZone k r d)
  | _ => .next s

/-- APPLY_SNAPSHOT_COUNTERS (R132): when the edit that alternation chooses is of this kind (R117, log 3, log 8). -/
def execApplySnapshotCounters (s : State) : Host.Outcome State Fault Refusal :=
  match s.chosen with
  | some (l, .snapshotCounters set) => .next ((s.takeEdit l).snapshots .manual fun i => set.getLsbD i.val)
  | _ => .next s

/-- ANSWER_EVENT (R134). -/
def execAnswerEvent (l : Link) (s : State) : Host.Outcome State Fault Refusal := .next (s.answer l)


end Sys2Proof.Machine
end

