-- ==== Sys2Proof/Machine/AudioEvents.lean ====
section
/-! DEFINITION. The 48 kHz sample period and the judgement of a block (R142, R148). -/

namespace Sys2Proof.Machine

/-- SAMPLE_PERIOD, with the sample of AN (R99, R140 to R147). -/
def execSamplePeriod (an : Sample) (s : State) : Host.Outcome State Fault Refusal := .next (s.samplePeriod an)

/-- BLOCK_JUDGEMENT of a block that has ended (R148). -/
def execBlockJudgement (s : State) : Host.Outcome State Fault Refusal := .next s.judgeBlock


end Sys2Proof.Machine
end

