-- ==== Sys2Proof/Machine/Resets.lean ====
section
/-! DEFINITION. Power-on, wall reset and link reset (R54, R57, R79, R102, R114, R137, R154, R170, R177). -/

namespace Sys2Proof.Machine

/-! ## Power-on -/

/-- Every item at its power-on value; the commands waiting stay. -/
def State.powerOn (s : State) (rank : Rank) (rateA rateB : LineRate) : State :=
  .afterPowerOn rank rateA rateB s.pending

/-! ## Wall reset -/

/-- The timing of a compositor at a wall reset: an ACTIVE screen's frame runs on, and a screen in STANDBY wakes (R79, log 27). -/
def Timing.wallReset : Timing → Timing
  | .starting left => .starting left
  | .running period left leadIn => .running period left leadIn
  | .stopped => .running Rate.hz60.period Rate.hz60.period true

/-- A compositor at a wall reset (R79). -/
def Compositor.wallReset (c : Compositor) : Compositor := { Compositor.powerOn with timing := c.timing.wallReset }

/-- A link at a wall reset: queue, barrier, waiting query, latches, record and count; then WALL_RESET is latched (R137, R177). -/
def LinkState.wallReset (x : LinkState) : LinkState :=
  { x with
    edits := [], barrier := none
    query := match x.query with
      | .waiting _ _ => .empty
      | .answered body => .answered body
      | .empty => .empty
    events := x.events.clearLatches.latch .wallReset none
    record := none, refusals := 0 }

/-- Everything a wall reset sets, with a lead-in frame begun on each screen that carried none (R79, R137). -/
def State.wallClear (s : State) : State :=
  { s with
    staged := Table.fill 16 .powerOn
    comps := s.comps.map Compositor.wallReset
    pool := .initial
    rings := s.rings.map Ring.dropReaders
    pins := Table.fill 16 .clear
    holds := Table.fill 16 .clear
    zones := s.zones.map Zone.wallReset
    linkA := s.linkA.wallReset
    linkB := s.linkB.wallReset }

/-- The screens in STANDBY, which carry no frame. -/
def State.sleeping (s : State) : List ScreenIx :=
  (List.finRange 16).filter fun scr => (s.comps.get scr).timing == .stopped

/-- The whole wall reset in its one event: inputs looped from a screen that wakes observe the start of its lead-in frame, and every front end keeps the rest (R79, R92, R136, R137). -/
def State.wallReset (s : State) : State := s.sleeping.foldl (fun t scr => t.startLoopedFrames scr) s.wallClear

/-! ## Link reset -/

/-- What is left of the character being sent, in 1/16 reference period; 0 when nothing is being sent (R170).
Characters follow one another at once (R156): at the very moment between two of them, of one frame or of two, and at the start of a frame, the one that begins counts as being sent, and goes out whole (the model's choice, log 19). -/
def LinkState.charLeft (x : LinkState) : Nat := if x.txLeft = 0 then 0 else (x.txLeft - 1) % charUnits x.rate + 1

/-- A link's own state at its link reset; the rate, the error counts and what is known of the line's zero stay (R154, R158, R170). -/
def LinkState.reset (x : LinkState) : LinkState :=
  { LinkState.powerOn x.rate with txLeft := x.charLeft, errors := x.errors, zero := x.zero }

/-- The holds of a link are released without HOLD_EXPIRED (R114, R170). -/
def Hold.releaseFor (l : Link) (h : Hold) : Hold := if h.holder = some l then .clear else h

/-- The link reset of link `l` (R170). -/
def State.linkReset (s : State) (l : Link) : State :=
  { s.modLink l LinkState.reset with holds := s.holds.map (Hold.releaseFor l) }

end Sys2Proof.Machine
end

