-- ==== Sys2Proof/Machine/Requests.lean ====
section
/-! DEFINITION. The taking of a request: kind, length, fields, capacity, path and reply (R115, R133, R136, R162 to R167, R170, R174, R176, R178). -/

namespace Sys2Proof.Machine

/-! ## Replies (R163, R166) -/

/-- An immediate reply enters the link's reply queue. -/
def State.reply (s : State) (l : Link) (body : List Byte) : State := s.modLink l fun x => x.enterReply body

def State.ack (s : State) (l : Link) (tag kind : Byte) : State := s.reply l (ackBody tag kind)

/-- A refused request changes nothing but the reply queue (R163). -/
def State.nak (s : State) (l : Link) (tag kind : Byte) (reason : NakReason) : State := s.reply l (nakBody tag kind reason)

/-! ## The three paths -/

/-- An edit: field checks, then the capacity check; an admitted one goes to the tail of the edit queue (R164). -/
def State.takeEditRequest (s : State) (l : Link) (tag : Byte) (k : EditKind) (f : List Byte) : State :=
  match readEdit k f with
  | .error reason => s.nak l tag k.code reason
  | .ok e =>
    if (s.link l).edits.length < Config.editPlaces then
      (s.modLink l fun x => { x with edits := x.edits ++ [e] }).ack l tag k.code
    else s.nak l tag k.code .queueFull

/-- A query: index, then the slot; an accepted one sets the barrier at the tail of the edit queue (R133, R165). -/
def State.takeQueryRequest (s : State) (l : Link) (tag : Byte) (k : QueryKind) (f : List Byte) : State :=
  match readQuery k f with
  | none => s.nak l tag k.code .badIndex
  | some q =>
    if (s.link l).query = .empty then
      (s.modLink l fun x => { x with query := .waiting tag q, barrier := some x.edits.length }).ack l tag k.code
    else s.nak l tag k.code .queryBusy

/-- IDENTIFY (R167). -/
def State.takeIdentify (s : State) (l : Link) (tag : Byte) : State := s.reply l (s.identityBody l tag)

/-- TAKE_EVENTS: the reply is composed, and the latches, the record and the count are emptied in the same event (R176). -/
def State.takeTakeEvents (s : State) (l : Link) (tag : Byte) : State :=
  (s.modLink l fun x => { x with events := x.events.clearLatches, record := none, refusals := 0 }).reply l
    ((s.link l).eventsBody tag)

/-- The enables and edge modes a SET_EVENTS writes; none when a code names no mode (R174). -/
def EventState.configure (e : EventState) (f : List Byte) : Option EventState :=
  match lossModeOf (u8 f 2), lossModeOf (u8 f 3), startModeOf (u8 f 4) with
  | some i, some c, some a => some { e with enables := readEnables f, inputMode := i, checkMode := c, announceMode := a }
  | _, _, _ => none

/-- SET_EVENTS (R174). -/
def State.takeSetEvents (s : State) (l : Link) (tag : Byte) (f : List Byte) : State :=
  match (s.link l).events.configure f with
  | some e => (s.modLink l fun x => { x with events := e }).ack l tag RequestKind.setEvents.code
  | none => s.nak l tag RequestKind.setEvents.code .badValue

/-- WALL_RESET: a junior link is refused (R136). -/
def State.takeWallReset (s : State) (l : Link) (tag : Byte) : State :=
  if junior s.rank l then s.nak l tag RequestKind.wallReset.code .notSenior
  else s.wallReset.ack l tag RequestKind.wallReset.code

/-- LINK_RESET, answered by RESET_DONE in the emptied queue (R170). -/
def State.takeLinkReset (s : State) (l : Link) (tag : Byte) : State := (s.linkReset l).reply l (resetDoneBody tag)

/-- A request whose kind and length are good (R163). -/
def State.takeKind (s : State) (l : Link) (tag : Byte) (k : RequestKind) (f : List Byte) : State :=
  match k with
  | .edit e => s.takeEditRequest l tag e f
  | .query q => s.takeQueryRequest l tag q f
  | .identify => s.takeIdentify l tag
  | .takeEvents => s.takeTakeEvents l tag
  | .setEvents => s.takeSetEvents l tag f
  | .wallReset => s.takeWallReset l tag
  | .linkReset => s.takeLinkReset l tag

/-- The taking of a frame whose kind byte names a kind: length, then the path (R163). -/
def State.takeNamed (s : State) (l : Link) (tag : Byte) (k : RequestKind) (f : List Byte) : State :=
  if k.lengthOk f then s.takeKind l tag k f else s.nak l tag k.code .badLength

/-- The taking of a frame with a kind byte, a tag and its fields (R162, R163). -/
def State.takeFrame (s : State) (l : Link) (kind tag : Byte) (f : List Byte) : State :=
  match requestKind kind with
  | some k => s.takeNamed l tag k f
  | none => s.nak l tag kind .unknownKind

/-- The taking of a body. -/
def State.takeBody (s : State) (l : Link) : List Byte → State
  | kind :: tag :: f => s.takeFrame l kind tag f
  | [_] => s
  | [] => s

/-! ## A frame given whole (log 7) -/

/-- The link's parser is in HUNT with no byte waiting, so that a frame can complete on it now. -/
def LinkState.quiet (x : LinkState) : Bool := x.parser == .initial && x.fifo.isEmpty

/-- The check byte of the frame has just arrived. -/
def LinkState.arrived (x : LinkState) (clock : Nat) : LinkState := { x with lastArrival := some clock, zero := .none }

/-- A frame with a good check completes on a link: taken at once when a reply place is free, and held in COMPLETE otherwise (R162).
On a link whose parser is not in HUNT with nothing waiting no frame can complete, and nothing happens. -/
def State.complete (s : State) (l : Link) (kind tag : Byte) (f : List Byte) : State :=
  if (s.link l).quiet then
    let t := s.modLink l fun x => x.arrived s.clock
    if (s.link l).replyRoom then t.takeFrame l kind tag f
    else t.modLink l fun x => { x with parser := { x.parser with phase := .complete (kind :: tag :: f) } }
  else s

end Sys2Proof.Machine
end

