-- ==== Sys2Proof/Machine/EditRequests.lean ====
section
/-! DEFINITION. The twelve edit requests: each is checked, clamped, and queued with an ACK or refused with a NAK (R115, R116, R164). -/

namespace Sys2Proof.Machine

/-- SET_MAIN: a frame of this kind completes on a link (R162, R164). -/
def execSetMain (l : Link) (tag : Byte) (fields : List Byte) (s : State) : Host.Outcome State Fault Refusal :=
  .next (s.complete l EditKind.setMain.code tag fields)

/-- SET_INSET: a frame of this kind completes on a link (R162, R164). -/
def execSetInset (l : Link) (tag : Byte) (fields : List Byte) (s : State) : Host.Outcome State Fault Refusal :=
  .next (s.complete l EditKind.setInset.code tag fields)

/-- CLEAR_INSET: a frame of this kind completes on a link (R162, R164). -/
def execClearInset (l : Link) (tag : Byte) (fields : List Byte) (s : State) : Host.Outcome State Fault Refusal :=
  .next (s.complete l EditKind.clearInset.code tag fields)

/-- CLEAR_SCREEN: a frame of this kind completes on a link (R162, R164). -/
def execClearScreen (l : Link) (tag : Byte) (fields : List Byte) (s : State) : Host.Outcome State Fault Refusal :=
  .next (s.complete l EditKind.clearScreen.code tag fields)

/-- SWAP: a frame of this kind completes on a link (R162, R164). -/
def execSwap (l : Link) (tag : Byte) (fields : List Byte) (s : State) : Host.Outcome State Fault Refusal :=
  .next (s.complete l EditKind.swap.code tag fields)

/-- SET_SCREEN: a frame of this kind completes on a link (R162, R164). -/
def execSetScreen (l : Link) (tag : Byte) (fields : List Byte) (s : State) : Host.Outcome State Fault Refusal :=
  .next (s.complete l EditKind.setScreen.code tag fields)

/-- GROUP: a frame of this kind completes on a link (R162, R164). -/
def execGroup (l : Link) (tag : Byte) (fields : List Byte) (s : State) : Host.Outcome State Fault Refusal :=
  .next (s.complete l EditKind.group.code tag fields)

/-- PIN: a frame of this kind completes on a link (R162, R164). -/
def execPin (l : Link) (tag : Byte) (fields : List Byte) (s : State) : Host.Outcome State Fault Refusal :=
  .next (s.complete l EditKind.pin.code tag fields)

/-- UNPIN: a frame of this kind completes on a link (R162, R164). -/
def execUnpin (l : Link) (tag : Byte) (fields : List Byte) (s : State) : Host.Outcome State Fault Refusal :=
  .next (s.complete l EditKind.unpin.code tag fields)

/-- SET_INPUT: a frame of this kind completes on a link (R162, R164). -/
def execSetInput (l : Link) (tag : Byte) (fields : List Byte) (s : State) : Host.Outcome State Fault Refusal :=
  .next (s.complete l EditKind.setInput.code tag fields)

/-- SET_ZONE: a frame of this kind completes on a link (R162, R164). -/
def execSetZone (l : Link) (tag : Byte) (fields : List Byte) (s : State) : Host.Outcome State Fault Refusal :=
  .next (s.complete l EditKind.setZone.code tag fields)

/-- SNAPSHOT_COUNTERS: a frame of this kind completes on a link (R162, R164). -/
def execSnapshotCounters (l : Link) (tag : Byte) (fields : List Byte) (s : State) : Host.Outcome State Fault Refusal :=
  .next (s.complete l EditKind.snapshotCounters.code tag fields)


end Sys2Proof.Machine
end

