-- ==== Sys2Proof/Machine/ImmediateRequests.lean ====
section
/-! DEFINITION. The immediate requests, and frames of no kind (R163, R167, R170, R174, R176). -/

namespace Sys2Proof.Machine

/-- IDENTIFY: a frame of this kind completes on a link (R162, R167). -/
def execIdentify (l : Link) (tag : Byte) (fields : List Byte) (s : State) : Host.Outcome State Fault Refusal :=
  .next (s.complete l RequestKind.identify.code tag fields)

/-- TAKE_EVENTS: a frame of this kind completes on a link (R162, R176). -/
def execTakeEvents (l : Link) (tag : Byte) (fields : List Byte) (s : State) : Host.Outcome State Fault Refusal :=
  .next (s.complete l RequestKind.takeEvents.code tag fields)

/-- SET_EVENTS: a frame of this kind completes on a link (R162, R174). -/
def execSetEvents (l : Link) (tag : Byte) (fields : List Byte) (s : State) : Host.Outcome State Fault Refusal :=
  .next (s.complete l RequestKind.setEvents.code tag fields)

/-- WALL_RESET: a frame of this kind completes on a link (R162, R136). -/
def execWallReset (l : Link) (tag : Byte) (fields : List Byte) (s : State) : Host.Outcome State Fault Refusal :=
  .next (s.complete l RequestKind.wallReset.code tag fields)

/-- LINK_RESET: a frame of this kind completes on a link (R162, R170). -/
def execLinkReset (l : Link) (tag : Byte) (fields : List Byte) (s : State) : Host.Outcome State Fault Refusal :=
  .next (s.complete l RequestKind.linkReset.code tag fields)

/-- UNKNOWN_KIND: a frame completes whose kind byte names no request kind (R162, R163). -/
def execUnknownKind (l : Link) (kind tag : Byte) (fields : List Byte) (s : State) : Host.Outcome State Fault Refusal :=
  .next (s.complete l kind tag fields)


end Sys2Proof.Machine
end

