-- ==== Sys2Proof/Machine/Time.lean ====
section
/-! DEFINITION. The passing of time: how many reference periods each timer still has to run, and what `n` reference periods do to all of them, the one-second ticks among them (00 Time, R97, R128; log 1, log 2, log 9). -/

namespace Sys2Proof.Machine

/-- The screen's frame in progress runs on (R57, R59). -/
def Timing.elapse (n : Nat) : Timing → Timing
  | .starting left => .starting (left - n)
  | .running period left leadIn => .running period (left - n) leadIn
  | .stopped => .stopped

/-- The slate's hold timer counts down at each millisecond tick; an indefinite hold does not count (R90). -/
def HoldTimer.elapse (ms : Nat) : HoldTimer → HoldTimer
  | .stopped => .stopped
  | .running left => .running (left - ms)
  | .indefinite => .indefinite

/-- The timers of a front end (R85, R86, R90). -/
def FrontEnd.elapse (n ms : Nat) (f : FrontEnd) : FrontEnd :=
  { f with
    acqTimer := f.acqTimer.map (· - ms)
    missLeft := f.missLeft.map (· - n)
    slateTimer := f.slateTimer.elapse ms }

/-- The transmitter of a link (R156). -/
def LinkState.elapse (n : Nat) (x : LinkState) : LinkState := { x with txLeft := x.txLeft - 16 * n }

/-- `n` reference periods pass by the reference clock and the timers that count its periods and its milliseconds.
A timer that comes to 0 stays there until its event is taken (log 2). -/
def State.pass (n : Nat) (s : State) : State :=
  let ms := (s.clock + n) / Config.msPeriods - s.clock / Config.msPeriods
  { s with
    clock := s.clock + n
    comps := s.comps.map fun c => { c with timing := c.timing.elapse n }
    fronts := s.fronts.map (FrontEnd.elapse n ms)
    holds := s.holds.map fun h => { h with ms := h.ms - ms }
    linkA := s.linkA.elapse n
    linkB := s.linkB.elapse n }

/-! ## The one-second tick (R97, R128) -/

/-- A pin at a one-second tick: a running lapse timer is lowered by one, and one that reaches 0 releases the pin (R128). -/
def Pin.tick (p : Pin) : Pin :=
  if p.lapse = 0 then p else if p.lapse = 1 then .clear else { p with lapse := p.lapse - 1 }

/-- The link that owns a pin whose lapse timer reaches 0 at this tick (R128). -/
def Pin.lapses (p : Pin) : Option Link := if p.lapse = 1 then p.owner else none

/-- PIN_LAPSED for a screen whose pin lapses at this tick (R128). -/
def State.raiseLapse (pins : Table Pin 16) (s : State) (scr : ScreenIx) : State :=
  match (pins.get scr).lapses with
  | some l => s.raise l .pinLapsed (some scr.val)
  | none => s

/-- A one-second tick, one event: the snapshots of the inputs in AUTO mode, the lapse timers, and the pins that lapse (R97, R128, log 9). -/
def State.secondTick (s : State) : State :=
  let t := s.snapshots .auto fun _ => true
  (List.finRange 16).foldl (State.raiseLapse s.pins) { t with pins := t.pins.map Pin.tick }

def State.secondTicks : Nat → State → State
  | 0, s => s
  | k + 1, s => State.secondTicks k s.secondTick

/-- The one-second ticks of the next `n` reference periods: a tick is every 1000th millisecond tick (00 Time). -/
def State.secondsIn (n : Nat) (s : State) : Nat :=
  (s.clock + n) / Config.secondPeriods - s.clock / Config.secondPeriods

/-- `n` reference periods pass: every clock and timer counts, and each one-second tick among them is taken (log 9). -/
def State.elapse (n : Nat) (s : State) : State := (s.pass n).secondTicks (s.secondsIn n)

/-! ## Time to each event -/

/-- Reference periods to the `k`-th tick from now of a tick that comes every `unit` of them; 0 for none. -/
def periodsToTick (unit clock k : Nat) : Nat := if k = 0 then 0 else (k - 1) * unit + (unit - clock % unit)

/-- Reference periods to the next one-second tick (00 Time). -/
def State.toSecond (s : State) : Nat := periodsToTick Config.secondPeriods s.clock 1

/-- Reference periods to the one-second tick at which a screen's pin lapses; 0 for a pin without lapse (R128). -/
def State.toPinLapse (s : State) (scr : ScreenIx) : Nat :=
  periodsToTick Config.secondPeriods s.clock (s.pins.get scr).lapse

/-- Reference periods to the expiry of a screen's hold (R124). -/
def State.toHoldExpiry (s : State) (scr : ScreenIx) : Nat := periodsToTick Config.msPeriods s.clock (s.holds.get scr).ms

/-- Reference periods to the expiry of an acquisition timer (R85). -/
def State.toAcquisitionExpiry (s : State) (i : InputIx) : Nat :=
  periodsToTick Config.msPeriods s.clock ((s.fronts.get i).acqTimer.getD 0)

/-- Reference periods to the expiry of a miss interval (R86). -/
def State.toMissExpiry (s : State) (i : InputIx) : Nat := (s.fronts.get i).missLeft.getD 0

/-- Reference periods to the expiry of a slate hold (R90). -/
def State.toSlateExpiry (s : State) (i : InputIx) : Nat :=
  match (s.fronts.get i).slateTimer with
  | .running ms => periodsToTick Config.msPeriods s.clock ms
  | .stopped => 0
  | .indefinite => 0

/-- Reference periods to the first whole one at or after the end of the frame in transmission (R156, log 18). -/
def State.toTransmissionEnd (s : State) (l : Link) : Nat := ((s.link l).headLeft + 15) / 16

/-- Reference periods to the end of the gap of 20 character times after the last arrival (R161). -/
def State.toGapEnd (s : State) (l : Link) : Nat :=
  match (s.link l).lastArrival with
  | some t => t + gapLimit (s.link l).rate - s.clock
  | none => 0

/-- Reference periods until the zero of a line has lasted 25 ms since its falling edge (R158). -/
def State.toBreak (s : State) (l : Link) : Nat :=
  match (s.link l).zero with
  | .framed edge => edge + Config.breakPeriods - s.clock
  | .none => 0
  | .broken => 0

/-- Reference periods to a screen's next boundary; before the first one it may come at any moment (R57, R59). -/
def State.toBoundary (s : State) (scr : ScreenIx) : Nat :=
  match (s.comps.get scr).timing with
  | .running _ left _ => left
  | .starting _ => 0
  | .stopped => 0

end Sys2Proof.Machine
end

