-- ==== Sys2Proof/Machine/Inputs.lean ====
section
/-! DEFINITION. The events of the input signals: the connector of an input, or the screen it is looped to (R81, R92, log 16). -/

namespace Sys2Proof.Machine

/-- FRAME_START, `wait` reference periods after the event before it (R81, R88).
A looped input observes each frame start of its screen in the event that begins the frame, and none of its connector, so that here only the time passes (R92). -/
def execFrameStart (i : InputIx) (wait : Nat) (s : State) : Host.Outcome State Fault Refusal :=
  let t := s.elapse wait
  if (t.fronts.get i).loop = none then .next (t.frameStart i) else .next t

/-- ACTIVE_LINE (R82, R94).
A looped input takes the next of its screen's 1080 rows, and the connector's line is disregarded (R92).
The row arrives as the screen puts it out: no line of a looped frame is damaged on the way (the model's choice, log 33). -/
def execActiveLine (i : InputIx) (pixels : List Colour) (s : State) : Host.Outcome State Fault Refusal :=
  match (s.fronts.get i).loop with
  | none => .next (s.activeLine i pixels)
  | some scr =>
    let row := (s.fronts.get i).linesSoFar
    if row < Config.canvasH then .next (s.activeLine i (s.outputLine scr row)) else .next s

/-- FRAME_END (R82, R84 to R89, R98).
A looped frame ends after its 1080 lines, at the latest where its screen's frame ends, and carries no audio (R92). -/
def execFrameEnd (i : InputIx) (audio : Option (List Stereo)) (s : State) : Host.Outcome State Fault Refusal :=
  match (s.fronts.get i).loop with
  | none => .next (s.frameEnd i audio)
  | some _ => if (s.fronts.get i).linesSoFar < Config.canvasH then .next s else .next (s.frameEnd i none)


end Sys2Proof.Machine
end

