-- ==== Sys2Proof/Machine/Parser.lean ====
section
/-! DEFINITION. The receiver and the frame parser of a link: arrivals, cuts, the check, the rescan, gaps, breaks, and the end of a transmission (R156 to R162, R166, R168). -/

namespace Sys2Proof.Machine

/-! ## Error counts (R168) -/

def errorUp (n : Nat) : Nat := countUp 255 n

/-! ## One byte (R159 to R161) -/

/-- The parser is assembling a frame: LENGTH, BODY or CHECK. -/
def Phase.inFrame : Phase → Bool
  | .hunt => false
  | .length => true
  | .body _ _ _ => true
  | .check _ _ _ => true
  | .complete _ => false

def LinkState.setPhase (x : LinkState) (ph : Phase) : LinkState := { x with parser := { x.parser with phase := ph } }

/-- A frame abandoned for a gap (R161). -/
def LinkState.abandonForGap (x : LinkState) : LinkState :=
  { x.setPhase .hunt with errors := { x.errors with timeout := errorUp x.errors.timeout } }

/-- A byte taken in HUNT (R159). -/
def LinkState.huntByte (x : LinkState) (b : Byte) : LinkState := if b = 0x7E then x.setPhase .length else x

/-- A byte taken in LENGTH (R159). -/
def LinkState.lengthByte (x : LinkState) (b : Byte) : LinkState :=
  if 2 ≤ b.toNat ∧ b.toNat ≤ 128 then x.setPhase (.body b.toNat [] b)
  else { x.setPhase .hunt with errors := { x.errors with length := errorUp x.errors.length } }

/-- A byte taken in BODY (R159). -/
def LinkState.bodyByte (x : LinkState) (len : Nat) (got : List Byte) (sum b : Byte) : LinkState :=
  if got.length + 1 < len then x.setPhase (.body len (got ++ [b]) (sum + b))
  else x.setPhase (.check len (got ++ [b]) (sum + b))

/-- A byte taken in CHECK: a good check completes the frame, and a bad one sends its bytes after the sync to the rescan (R160). -/
def LinkState.checkByte (x : LinkState) (len : Nat) (got : List Byte) (sum b : Byte) : LinkState :=
  if sum + b = 0 then x.setPhase (.complete got)
  else
    { x with
      parser := { phase := .hunt, rescan := b8 len :: (got ++ b :: x.parser.rescan) }
      errors := { x.errors with badCheck := errorUp x.errors.badCheck } }

/-- The parser takes a byte; a late one abandons the frame in assembly and is then taken in HUNT (R159, R161). -/
def LinkState.takeByte (x : LinkState) (b : Byte) (late : Bool) : LinkState :=
  if late && x.parser.phase.inFrame then x.abandonForGap.huntByte b
  else
    match x.parser.phase with
    | .hunt => x.huntByte b
    | .length => x.lengthByte b
    | .body len got sum => x.bodyByte len got sum b
    | .check len got sum => x.checkByte len got sum b
    | .complete _ => x

/-- The parser reaches a cut (R157). -/
def LinkState.takeCut (x : LinkState) : LinkState := if x.parser.phase.inFrame then x.setPhase .hunt else x

/-- The next byte or cut the parser takes when it holds no complete frame: the rescan first, then the FIFO (R160). -/
def LinkState.takeNext (x : LinkState) : Option LinkState :=
  match x.parser.rescan, x.fifo with
  | b :: rest, _ => some ({ x with parser := { x.parser with rescan := rest } }.takeByte b false)
  | [], .byte b late :: rest => some ({ x with fifo := rest }.takeByte b late)
  | [], .cut :: rest => some ({ x with fifo := rest }.takeCut)
  | [], [] => none

/-! ## The parser runs until it can take nothing (R162) -/

/-- A held frame can be taken: a reply place is free and no RESULT waits for it (R162). -/
def LinkState.canTake (x : LinkState) : Bool :=
  x.replyRoom &&
    match x.query with
    | .answered _ => false
    | .waiting _ _ => true
    | .empty => true

/-- One step of the parser: take the complete frame, or the next byte or cut; none when neither can be done. -/
def State.parseOnce (s : State) (l : Link) : Option State :=
  let x := s.link l
  match x.parser.phase with
  | .complete body => if x.canTake then some ((s.setLink l (x.setPhase .hunt)).takeBody l body) else none
  | .hunt => x.takeNext.map (s.setLink l)
  | .length => x.takeNext.map (s.setLink l)
  | .body _ _ _ => x.takeNext.map (s.setLink l)
  | .check _ _ _ => x.takeNext.map (s.setLink l)

/-- The bytes of the frame in assembly, its sync and length among them. -/
def Phase.held : Phase → Nat
  | .hunt => 0
  | .length => 1
  | .body _ got _ => got.length + 2
  | .check _ got _ => got.length + 2
  | .complete got => got.length + 2

/-- Bytes and cuts that a link still holds for its parser. -/
def LinkState.outstanding (x : LinkState) : Nat := x.parser.phase.held + x.parser.rescan.length + x.fifo.length

/-- Enough steps for the parser to come to rest: a bad check loses its sync for good, and between two of them every byte is taken once (log 29). -/
def LinkState.parseSteps (x : LinkState) : Nat := (x.outstanding + 2) * (x.outstanding + 2)

def State.parseFor (l : Link) : Nat → State → State
  | 0, s => s
  | n + 1, s =>
    match s.parseOnce l with
    | some t => State.parseFor l n t
    | none => s

/-- The gap of 20 character times after the last arrival has passed (R161). -/
def State.gapPassed (s : State) (l : Link) : Bool :=
  match (s.link l).lastArrival with
  | some t => t + gapLimit (s.link l).rate ≤ s.clock
  | none => false

/-- A frame in assembly with no byte left to take, after its gap, is abandoned (R161). -/
def State.settleGap (s : State) (l : Link) : State :=
  let x := s.link l
  if x.parser.phase.inFrame && x.parser.rescan.isEmpty && x.fifo.isEmpty && s.gapPassed l then
    s.setLink l x.abandonForGap
  else s

/-- The parser takes all it can (R157, R162), and then the gap is looked at (R161). -/
def State.parse (s : State) (l : Link) : State := (State.parseFor l (s.link l).parseSteps s).settleGap l

/-! ## Arrivals (R157, R158) -/

/-- The arriving character's late mark: more than 20 character times after the one before it. -/
def LinkState.isLate (x : LinkState) (clock : Nat) : Bool :=
  match x.lastArrival with
  | some t => t + gapLimit x.rate < clock
  | none => false

/-- A character with a one stop bit: into the FIFO, or lost to an overrun with a cut (R157). -/
def LinkState.receiveByte (x : LinkState) (clock : Nat) (b : Byte) : LinkState :=
  if fifoLevel x.fifo < Config.fifoBytes then
    { x with fifo := x.fifo ++ [.byte b (x.isLate clock)], lastArrival := some clock, zero := .none }
  else
    { x with
      fifo := addCut x.fifo, lastArrival := some clock, zero := .none
      errors := { x.errors with overrun := errorUp x.errors.overrun } }

/-- A character with a zero stop bit: a framing error and a cut; the zero it ends in, from the start bit or from after its last one on, may become a break (R158, log 20). -/
def LinkState.receiveFramingError (x : LinkState) (clock : Nat) (b : Byte) : LinkState :=
  { x with
    fifo := addCut x.fifo, lastArrival := some clock, zero := .framed (clock - zeroPeriods x.rate b)
    errors := { x.errors with framing := errorUp x.errors.framing } }

def LinkState.receive (x : LinkState) (clock : Nat) (b : Byte) (stop : Bool) : LinkState :=
  if stop then x.receiveByte clock b else x.receiveFramingError clock b

/-- A character completes on a receive line now (R157, R158). -/
def State.arrive (s : State) (l : Link) (b : Byte) (stop : Bool) : State :=
  (s.modLink l fun x => x.receive s.clock b stop).parse l

/-! ## Break (R158) -/

/-- A zero is under way whose character has come and whose 25 ms are not yet over at this reading of the clock. -/
def LineZero.held (clock : Nat) : LineZero → Bool
  | .framed edge => clock ≤ edge + Config.breakPeriods
  | .none => false
  | .broken => false

/-- The line is at zero: where no zero is under way it falls now, and the middle of the stop bit passes, with the framing error of its character (log 20). -/
def State.holdZero (s : State) (l : Link) : State :=
  if (s.link l).zero.held s.clock then s else (s.elapse (zeroPeriods (s.link l).rate 0)).arrive l 0 false

def LinkState.countBreak (x : LinkState) : LinkState :=
  { x with zero := .broken, errors := { x.errors with breaks := errorUp x.errors.breaks } }

/-- The line has been at zero for 25 ms: the break is counted and the link reset. -/
def State.breakLine (s : State) (l : Link) : State := (s.modLink l LinkState.countBreak).linkReset l

/-! ## The end of a transmission (R156, R162, R166) -/

/-- The frame sent leaves the queue, and the next one has begun at the moment it ended; a RESULT waiting in the query slot takes the freed place. -/
def LinkState.endFrame (x : LinkState) : LinkState :=
  let y : LinkState := { x with replies := x.replies.tail }
  match y.query with
  | .answered body => { y with query := .empty }.enterReply body
  | .waiting _ _ => y
  | .empty => y

/-- The last character of the head frame is sent: then a frame held in COMPLETE can be taken. -/
def State.endTransmission (s : State) (l : Link) : State := (s.modLink l LinkState.endFrame).parse l

end Sys2Proof.Machine
end

