-- ==== Sys2Proof/Machine/Lines.lean ====
section
/-! DEFINITION. The events of the receive and transmit lines (R156 to R161). -/

namespace Sys2Proof.Machine

/-- ARRIVAL: a character completes `wait` reference periods after the event before it (R157, R158). -/
def execArrival (l : Link) (wait : Nat) (byte : Byte) (stop : Bool) (s : State) : Host.Outcome State Fault Refusal :=
  .next ((s.elapse wait).arrive l byte stop)

/-- INTER_BYTE_TIMEOUT: the rest of the gap passes while a frame is in assembly (R161, log 2). -/
def execInterByteTimeout (l : Link) (s : State) : Host.Outcome State Fault Refusal :=
  if (s.link l).parser.phase.inFrame then .next ((s.elapse (s.toGapEnd l)).settleGap l) else .next s

/-- BREAK: the line stays at zero until 25 ms after the falling edge that began the zero (R158, R170, log 20). -/
def execLineBreak (l : Link) (s : State) : Host.Outcome State Fault Refusal :=
  let t := s.holdZero l
  .next ((t.elapse (t.toBreak l)).breakLine l)

/-- TRANSMISSION_END: the rest of the frame in transmission is sent (R156, log 2). -/
def execTransmissionEnd (l : Link) (s : State) : Host.Outcome State Fault Refusal :=
  if (s.link l).replies = [] then .next s else .next ((s.elapse (s.toTransmissionEnd l)).endTransmission l)


end Sys2Proof.Machine
end

