-- ==== Sys2Proof/Machine/QueryRequests.lean ====
section
/-! DEFINITION. The seven queries: each is accepted into the query slot with a barrier and an ACK, or refused (R133, R165). -/

namespace Sys2Proof.Machine

/-- READ_SCREEN: a frame of this kind completes on a link (R162, R165, R13). -/
def execReadScreen (l : Link) (tag : Byte) (fields : List Byte) (s : State) : Host.Outcome State Fault Refusal :=
  .next (s.complete l QueryKind.readScreen.code tag fields)

/-- READ_WINDOW: a frame of this kind completes on a link (R162, R165, R15). -/
def execReadWindow (l : Link) (tag : Byte) (fields : List Byte) (s : State) : Host.Outcome State Fault Refusal :=
  .next (s.complete l QueryKind.readWindow.code tag fields)

/-- READ_INPUT: a frame of this kind completes on a link (R162, R165, R100). -/
def execReadInput (l : Link) (tag : Byte) (fields : List Byte) (s : State) : Host.Outcome State Fault Refusal :=
  .next (s.complete l QueryKind.readInput.code tag fields)

/-- READ_ZONE: a frame of this kind completes on a link (R162, R165, R152). -/
def execReadZone (l : Link) (tag : Byte) (fields : List Byte) (s : State) : Host.Outcome State Fault Refusal :=
  .next (s.complete l QueryKind.readZone.code tag fields)

/-- READ_POOL: a frame of this kind completes on a link (R162, R165, R55). -/
def execReadPool (l : Link) (tag : Byte) (fields : List Byte) (s : State) : Host.Outcome State Fault Refusal :=
  .next (s.complete l QueryKind.readPool.code tag fields)

/-- READ_COUNTERS: a frame of this kind completes on a link (R162, R165, R101). -/
def execReadCounters (l : Link) (tag : Byte) (fields : List Byte) (s : State) : Host.Outcome State Fault Refusal :=
  .next (s.complete l QueryKind.readCounters.code tag fields)

/-- READ_LINK: a frame of this kind completes on a link (R162, R165, R169). -/
def execReadLink (l : Link) (tag : Byte) (fields : List Byte) (s : State) : Host.Outcome State Fault Refusal :=
  .next (s.complete l QueryKind.readLink.code tag fields)


end Sys2Proof.Machine
end

