-- ==== Sys2Proof/Machine/Screens.lean ====
section
/-! DEFINITION. Power-on, and the boundaries of the screens (R57, R61). -/

namespace Sys2Proof.Machine

/-- POWER_ON, with the straps read (R57, R154). -/
def execPowerOn (rank : Rank) (rateA rateB : LineRate) (s : State) : Host.Outcome State Fault Refusal := .next (s.powerOn rank rateA rateB)

/-- BOUNDARY: the frame in progress of an ACTIVE screen runs to its end, inputs looped from the screen take the rest of it, and the compositor commits (R59, R61, R92).
A screen in STANDBY has no boundary. -/
def execBoundary (scr : ScreenIx) (s : State) : Host.Outcome State Fault Refusal :=
  if (s.comps.get scr).run = .standby then .next s else .next (((s.elapse (s.toBoundary scr)).endLoopedFrames scr).commit scr)


end Sys2Proof.Machine
end

