-- ==== Sys2Proof/Machine/Timers.lean ====
section
/-! DEFINITION. The timers of the editor and of the input front ends: the time a timer still has to run passes first, and a timer that is not running changes nothing (R85, R86, R90, R97, R124, R128; log 2, log 3). -/

namespace Sys2Proof.Machine

/-- ONE_SECOND_TICK: the time to the next one-second tick passes, and the tick with it (R97, R128, log 9). -/
def execOneSecondTick (s : State) : Host.Outcome State Fault Refusal := .next (s.elapse s.toSecond)

/-- PIN_LAPSED: the time to the one-second tick at which the screen's pin lapses passes, and the lapse with it (R128, log 9). -/
def execPinLapsed (scr : ScreenIx) (s : State) : Host.Outcome State Fault Refusal :=
  if (s.pins.get scr).owner = none then .next s else .next (s.elapse (s.toPinLapse scr))

/-- HOLD_EXPIRED (R124). -/
def execHoldExpired (scr : ScreenIx) (s : State) : Host.Outcome State Fault Refusal :=
  if (s.holds.get scr).holder = none then .next s else .next ((s.elapse (s.toHoldExpiry scr)).expireHold scr)

/-- ACQUISITION_TIMER_EXPIRY (R85). -/
def execAcquisitionTimerExpiry (i : InputIx) (s : State) : Host.Outcome State Fault Refusal :=
  if (s.fronts.get i).acqTimer = none then .next s
  else .next ((s.elapse (s.toAcquisitionExpiry i)).acquisitionExpiry i)

/-- MISS_INTERVAL_EXPIRY (R86). -/
def execMissIntervalExpiry (i : InputIx) (s : State) : Host.Outcome State Fault Refusal :=
  if (s.fronts.get i).missLeft = none then .next s
  else .next ((s.elapse (s.toMissExpiry i)).missExpiry i)

/-- The slate's hold timer counts (R90). -/
def HoldTimer.counts : HoldTimer → Bool
  | .running _ => true
  | .stopped => false
  | .indefinite => false

/-- SLATE_HOLD_EXPIRY (R90). -/
def execSlateHoldExpiry (i : InputIx) (s : State) : Host.Outcome State Fault Refusal :=
  if (s.fronts.get i).slateTimer.counts then .next ((s.elapse (s.toSlateExpiry i)).modFront i FrontEnd.slateExpiry)
  else .next s


end Sys2Proof.Machine
end

