-- ==== Sys2Proof/Machine/Dispatch.lean ====
section
/-! DEFINITION. One arm per command. -/

namespace Sys2Proof.Machine

def exec (i : Instr) (s : State) : Host.Outcome State Fault Refusal :=
  match i with
  | .powerOn rank rateA rateB => Sys2Proof.Machine.execPowerOn rank rateA rateB s
  | .setMain l tag fields => Sys2Proof.Machine.execSetMain l tag fields s
  | .setInset l tag fields => Sys2Proof.Machine.execSetInset l tag fields s
  | .clearInset l tag fields => Sys2Proof.Machine.execClearInset l tag fields s
  | .clearScreen l tag fields => Sys2Proof.Machine.execClearScreen l tag fields s
  | .swap l tag fields => Sys2Proof.Machine.execSwap l tag fields s
  | .setScreen l tag fields => Sys2Proof.Machine.execSetScreen l tag fields s
  | .group l tag fields => Sys2Proof.Machine.execGroup l tag fields s
  | .pin l tag fields => Sys2Proof.Machine.execPin l tag fields s
  | .unpin l tag fields => Sys2Proof.Machine.execUnpin l tag fields s
  | .setInput l tag fields => Sys2Proof.Machine.execSetInput l tag fields s
  | .setZone l tag fields => Sys2Proof.Machine.execSetZone l tag fields s
  | .snapshotCounters l tag fields => Sys2Proof.Machine.execSnapshotCounters l tag fields s
  | .readScreen l tag fields => Sys2Proof.Machine.execReadScreen l tag fields s
  | .readWindow l tag fields => Sys2Proof.Machine.execReadWindow l tag fields s
  | .readInput l tag fields => Sys2Proof.Machine.execReadInput l tag fields s
  | .readZone l tag fields => Sys2Proof.Machine.execReadZone l tag fields s
  | .readPool l tag fields => Sys2Proof.Machine.execReadPool l tag fields s
  | .readCounters l tag fields => Sys2Proof.Machine.execReadCounters l tag fields s
  | .readLink l tag fields => Sys2Proof.Machine.execReadLink l tag fields s
  | .identify l tag fields => Sys2Proof.Machine.execIdentify l tag fields s
  | .takeEvents l tag fields => Sys2Proof.Machine.execTakeEvents l tag fields s
  | .setEvents l tag fields => Sys2Proof.Machine.execSetEvents l tag fields s
  | .wallReset l tag fields => Sys2Proof.Machine.execWallReset l tag fields s
  | .linkReset l tag fields => Sys2Proof.Machine.execLinkReset l tag fields s
  | .unknownKind l kind tag fields => Sys2Proof.Machine.execUnknownKind l kind tag fields s
  | .applySetMain => Sys2Proof.Machine.execApplySetMain s
  | .applySetInset => Sys2Proof.Machine.execApplySetInset s
  | .applyClearInset => Sys2Proof.Machine.execApplyClearInset s
  | .applyClearScreen => Sys2Proof.Machine.execApplyClearScreen s
  | .applySwap => Sys2Proof.Machine.execApplySwap s
  | .applySetScreen => Sys2Proof.Machine.execApplySetScreen s
  | .applyGroup => Sys2Proof.Machine.execApplyGroup s
  | .applyPin => Sys2Proof.Machine.execApplyPin s
  | .applyUnpin => Sys2Proof.Machine.execApplyUnpin s
  | .applySetInput => Sys2Proof.Machine.execApplySetInput s
  | .applySetZone => Sys2Proof.Machine.execApplySetZone s
  | .applySnapshotCounters => Sys2Proof.Machine.execApplySnapshotCounters s
  | .answerEvent l => Sys2Proof.Machine.execAnswerEvent l s
  | .oneSecondTick => Sys2Proof.Machine.execOneSecondTick s
  | .pinLapsed scr => Sys2Proof.Machine.execPinLapsed scr s
  | .holdExpired scr => Sys2Proof.Machine.execHoldExpired scr s
  | .arrival l wait byte stop => Sys2Proof.Machine.execArrival l wait byte stop s
  | .interByteTimeout l => Sys2Proof.Machine.execInterByteTimeout l s
  | .lineBreak l => Sys2Proof.Machine.execLineBreak l s
  | .transmissionEnd l => Sys2Proof.Machine.execTransmissionEnd l s
  | .frameStart inp wait => Sys2Proof.Machine.execFrameStart inp wait s
  | .activeLine inp pixels => Sys2Proof.Machine.execActiveLine inp pixels s
  | .frameEnd inp audio => Sys2Proof.Machine.execFrameEnd inp audio s
  | .acquisitionTimerExpiry inp => Sys2Proof.Machine.execAcquisitionTimerExpiry inp s
  | .missIntervalExpiry inp => Sys2Proof.Machine.execMissIntervalExpiry inp s
  | .slateHoldExpiry inp => Sys2Proof.Machine.execSlateHoldExpiry inp s
  | .samplePeriod an => Sys2Proof.Machine.execSamplePeriod an s
  | .blockJudgement => Sys2Proof.Machine.execBlockJudgement s
  | .boundary scr => Sys2Proof.Machine.execBoundary scr s

end Sys2Proof.Machine
end

