-- ==== Sys2Proof/Machine/Step.lean ====
section
/-! DEFINITION. One step: the command at the front of the queue, or, with none waiting, the part's own clock (log 1, log 6). -/

namespace Sys2Proof.Machine

/-- The commands of a list are asked in turn. -/
def firstDue (due : Instr → Bool) (cs : List Instr) : Option Instr := cs.find? due

/-- A screen's frame in progress is over, or the longest wait for its first boundary is. -/
def Timing.over : Timing → Bool
  | .starting left => left == 0
  | .running _ left _ => left == 0
  | .stopped => false

/-- The slate's hold timer has come to 0. -/
def HoldTimer.over : HoldTimer → Bool
  | .running ms => ms == 0
  | .stopped => false
  | .indefinite => false

/-- The events that the part's own clock brings about, in the order the model takes those that are due together (log 6).
One-second ticks, with the pins that lapse at them, are taken as the time passes (log 9). -/
def clockEvents : List Instr :=
  (List.finRange 16).map Instr.holdExpired ++
    (List.finRange 12).map Instr.slateHoldExpiry ++
    (List.finRange 12).map Instr.acquisitionTimerExpiry ++
    (List.finRange 12).map Instr.missIntervalExpiry ++
    [.transmissionEnd .a, .transmissionEnd .b, .interByteTimeout .a, .interByteTimeout .b, .blockJudgement] ++
    (List.finRange 16).map Instr.boundary

/-- The event is due now: its timer has come to its end and it has not been taken. -/
def State.due (s : State) : Instr → Bool
  | .holdExpired scr => (s.holds.get scr).holder.isSome && (s.holds.get scr).ms == 0
  | .slateHoldExpiry i => (s.fronts.get i).slateTimer.over
  | .acquisitionTimerExpiry i => (s.fronts.get i).acqTimer == some 0
  | .missIntervalExpiry i => (s.fronts.get i).missLeft == some 0
  | .transmissionEnd l => !(s.link l).replies.isEmpty && (s.link l).headLeft == 0
  | .interByteTimeout l => (s.link l).parser.phase.inFrame && s.gapPassed l
  | .blockJudgement => s.detector.due
  | .boundary scr => (s.comps.get scr).timing.over
  | _ => false

/-- The event of the part's own clock that is taken next. -/
def State.nextDue (s : State) : Option Instr := firstDue s.due clockEvents

/-- With no command waiting, an event that is due is taken; with none due, one reference period passes (log 1). -/
def State.idle (s : State) : Host.Outcome State Fault Refusal :=
  match s.nextDue with
  | some e => exec e s
  | none => .next (s.elapse 1)

/-- Take the command at the front of the queue and run it with the queue's rest. -/
def step (s : State) : Host.Outcome State Fault Refusal :=
  match s.pending with
  | c :: rest => exec c { s with pending := rest }
  | [] => s.idle

/-- The command that a word spells, put at the front of the queue; no word spells one. -/
def State.withFetchWord (s : State) (nbits w : Nat) : State :=
  match decodeTableWord nbits w with
  | some c => { s with pending := c :: s.pending }
  | none => s

end Sys2Proof.Machine
end

