-- ==== Sys2Proof/Safety.lean ====
section
/-! DEFINITION. The words the statements are written in: the request commands by kind, the ranges of R116, and the laws the spec says the part maintains. -/

namespace Sys2Proof.Machine

/-! ## The request commands by kind -/

def editCommand (k : EditKind) (l : Link) (tag : Byte) (f : List Byte) : Instr :=
  match k with
  | .setMain => .setMain l tag f
  | .setInset => .setInset l tag f
  | .clearInset => .clearInset l tag f
  | .clearScreen => .clearScreen l tag f
  | .swap => .swap l tag f
  | .setScreen => .setScreen l tag f
  | .group => .group l tag f
  | .pin => .pin l tag f
  | .unpin => .unpin l tag f
  | .setInput => .setInput l tag f
  | .setZone => .setZone l tag f
  | .snapshotCounters => .snapshotCounters l tag f

def queryCommand (k : QueryKind) (l : Link) (tag : Byte) (f : List Byte) : Instr :=
  match k with
  | .readScreen => .readScreen l tag f
  | .readWindow => .readWindow l tag f
  | .readInput => .readInput l tag f
  | .readZone => .readZone l tag f
  | .readPool => .readPool l tag f
  | .readCounters => .readCounters l tag f
  | .readLink => .readLink l tag f

/-- The request commands of every kind. -/
def requestCommand (k : RequestKind) (l : Link) (tag : Byte) (f : List Byte) : Instr :=
  match k with
  | .edit e => editCommand e l tag f
  | .query q => queryCommand q l tag f
  | .identify => .identify l tag f
  | .takeEvents => .takeEvents l tag f
  | .setEvents => .setEvents l tag f
  | .wallReset => .wallReset l tag f
  | .linkReset => .linkReset l tag f

/-- The body of the frame a request command brings, if it brings one (R159, R178). -/
def frameBody : Instr → Option (List Byte)
  | .powerOn _ _ _ => none
  | .setMain _ tag f => some (EditKind.setMain.code :: tag :: f)
  | .setInset _ tag f => some (EditKind.setInset.code :: tag :: f)
  | .clearInset _ tag f => some (EditKind.clearInset.code :: tag :: f)
  | .clearScreen _ tag f => some (EditKind.clearScreen.code :: tag :: f)
  | .swap _ tag f => some (EditKind.swap.code :: tag :: f)
  | .setScreen _ tag f => some (EditKind.setScreen.code :: tag :: f)
  | .group _ tag f => some (EditKind.group.code :: tag :: f)
  | .pin _ tag f => some (EditKind.pin.code :: tag :: f)
  | .unpin _ tag f => some (EditKind.unpin.code :: tag :: f)
  | .setInput _ tag f => some (EditKind.setInput.code :: tag :: f)
  | .setZone _ tag f => some (EditKind.setZone.code :: tag :: f)
  | .snapshotCounters _ tag f => some (EditKind.snapshotCounters.code :: tag :: f)
  | .readScreen _ tag f => some (QueryKind.readScreen.code :: tag :: f)
  | .readWindow _ tag f => some (QueryKind.readWindow.code :: tag :: f)
  | .readInput _ tag f => some (QueryKind.readInput.code :: tag :: f)
  | .readZone _ tag f => some (QueryKind.readZone.code :: tag :: f)
  | .readPool _ tag f => some (QueryKind.readPool.code :: tag :: f)
  | .readCounters _ tag f => some (QueryKind.readCounters.code :: tag :: f)
  | .readLink _ tag f => some (QueryKind.readLink.code :: tag :: f)
  | .identify _ tag f => some (RequestKind.identify.code :: tag :: f)
  | .takeEvents _ tag f => some (RequestKind.takeEvents.code :: tag :: f)
  | .setEvents _ tag f => some (RequestKind.setEvents.code :: tag :: f)
  | .wallReset _ tag f => some (RequestKind.wallReset.code :: tag :: f)
  | .linkReset _ tag f => some (RequestKind.linkReset.code :: tag :: f)
  | .unknownKind _ kind tag f => some (kind :: tag :: f)
  | .applySetMain => none
  | .applySetInset => none
  | .applyClearInset => none
  | .applyClearScreen => none
  | .applySwap => none
  | .applySetScreen => none
  | .applyGroup => none
  | .applyPin => none
  | .applyUnpin => none
  | .applySetInput => none
  | .applySetZone => none
  | .applySnapshotCounters => none
  | .answerEvent _ => none
  | .oneSecondTick => none
  | .pinLapsed _ => none
  | .holdExpired _ => none
  | .arrival _ _ _ _ => none
  | .interByteTimeout _ => none
  | .lineBreak _ => none
  | .transmissionEnd _ => none
  | .frameStart _ _ => none
  | .activeLine _ _ => none
  | .frameEnd _ _ => none
  | .acquisitionTimerExpiry _ => none
  | .missIntervalExpiry _ => none
  | .slateHoldExpiry _ => none
  | .samplePeriod _ => none
  | .blockJudgement => none
  | .boundary _ => none

/-! ## Links after a frame or an application -/

/-- The link after a frame has come whole and its immediate reply has entered: nothing else of it changes (R162, R163). -/
def LinkState.replied (x : LinkState) (clock : Nat) (body : List Byte) : LinkState :=
  { x with
    lastArrival := some clock
    zero := .none
    replies := x.replies ++ [body]
    txLeft := x.txLeft + (body.length + 3) * charUnits x.rate }

/-- A frame can be taken on a link in the event that completes it: its parser is in HUNT with nothing waiting, and a reply place is free (R162). -/
def State.ready (s : State) (l : Link) : Prop := (s.link l).quiet = true ∧ (s.link l).replies.length < 4

/-- The link an application was taken from: its head edit is gone and its barrier has moved forward (R118, R133). -/
def LinkState.afterApplication (x : LinkState) : LinkState :=
  { x with edits := x.edits.tail, barrier := x.barrier.map (· - 1) }

/-- The link after the refusal of one edit at application (R125). -/
def LinkState.afterRefusal (x : LinkState) (kind : EditKind) (scr : ScreenIx) (reason : RefusalReason) : LinkState :=
  { x with
    record := some (x.record.getD { kind := kind.code, screen := scr, reason := reason })
    refusals := if x.refusals < 255 then x.refusals + 1 else 255
    events := x.events.latch .editRefused none }

/-- The part after an application has taken the head edit of a link, before the edit does anything (R117, R118). -/
def State.afterTaking (s : State) (l : Link) : State := { s.setLink l (s.link l).afterApplication with marker := l }

/-- The part after an application that refuses the edit it takes (R125). -/
def State.afterRefusedEdit (s : State) (l : Link) (kind : EditKind) (scr : ScreenIx) (reason : RefusalReason) : State :=
  { s.setLink l ((s.link l).afterApplication.afterRefusal kind scr reason) with marker := l }

/-- A link's pin stops the other link's edits unless that one is senior (R122). -/
def State.PinStops (s : State) (l : Link) (scr : ScreenIx) : Prop :=
  (s.pins.get scr).owner = some l.other ∧ senior s.rank l = false

/-- A hold of the other link stops a HOLD edit (R122). -/
def State.HoldStops (s : State) (l : Link) (scr : ScreenIx) (hold : Bool) : Prop :=
  hold = true ∧ (s.holds.get scr).holder = some l.other

/-- A hold after an admitted screen edit of a link (R123). -/
def Hold.afterAdmitted (h : Hold) (l : Link) (hold : Bool) : Hold :=
  if hold = true then { holder := some l, ms := 1000 }
  else if h.holder = some l then { holder := none, ms := 0 }
  else h

/-- The part after an admitted screen edit that wakes nothing: the edit is taken, one Staged record and one hold change (R118, R119, R123). -/
def State.afterScreenEdit (s : State) (l : Link) (hold : Bool) (scr : ScreenIx) (r : ScreenRecord) : State :=
  { s.afterTaking l with
    staged := s.staged.set scr r
    holds := s.holds.set scr ((s.holds.get scr).afterAdmitted l hold) }

/-- A compositor at a wake: the flag alone is copied to Live, and a lead-in frame of one period of the Live rate begins (R78). -/
def Compositor.awake (c : Compositor) : Compositor :=
  { c with
    live := { c.live with settings := { c.live.settings with standby := false } }
    run := .active
    timing := .running c.live.settings.rate.period c.live.settings.rate.period true }

/-- The HOLD flag and the screen of a screen edit (R122). -/
def Edit.screenPart : Edit → Option (Bool × ScreenIx)
  | .setMain hold scr _ => some (hold, scr)
  | .setInset hold scr _ _ => some (hold, scr)
  | .clearInset hold scr _ => some (hold, scr)
  | .clearScreen hold scr => some (hold, scr)
  | .swap hold scr _ => some (hold, scr)
  | .setScreen hold scr _ => some (hold, scr)
  | .group _ _ _ _ => none
  | .pin _ _ => none
  | .unpin _ => none
  | .setInput _ _ => none
  | .setZone _ _ _ => none
  | .snapshotCounters _ => none

/-- The application of an edit's kind. -/
def applyCommand : EditKind → Instr
  | .setMain => .applySetMain
  | .setInset => .applySetInset
  | .clearInset => .applyClearInset
  | .clearScreen => .applyClearScreen
  | .swap => .applySwap
  | .setScreen => .applySetScreen
  | .group => .applyGroup
  | .pin => .applyPin
  | .unpin => .applyUnpin
  | .setInput => .applySetInput
  | .setZone => .applySetZone
  | .snapshotCounters => .applySnapshotCounters

/-! ## Bytes on a receive line -/

/-- The commands of the characters of a line, back to back, each with a one stop bit. -/
def arrivals (l : Link) (bytes : List Byte) : List Instr := bytes.map fun b => .arrival l 0 b true

/-- The state after each of the commands has run; none when one of them stops. -/
def execAll : List Instr → State → Option State
  | [], s => some s
  | c :: cs, s =>
    match exec c s with
    | .next t => execAll cs t
    | .fault _ => none
    | .refused _ => none

/-! ## Fields of messages (Tables 11-1 to 11-11)

A layout is a list of fields in their order, each with its width in bytes and its value. -/

/-- A number in a field of some bytes, the most significant first (11 Message Formats). -/
def bigEndian (width value : Nat) : List Byte :=
  ((List.range width).map fun k => BitVec.ofNat 8 (value / 256 ^ k)).reverse

def layout (fields : List (Nat × Nat)) : List Byte := fields.flatMap fun x => bigEndian x.1 x.2

/-- Every value fits its field. -/
def Fits (fields : List (Nat × Nat)) : Prop := ∀ x ∈ fields, x.2 < 256 ^ x.1

/-- The number of a thing, 0 for none (Table 11-3). -/
def number {n : Nat} : Option (Fin n) → Nat
  | none => 0
  | some i => i.val + 1

/-- A contribution source's number: 1 to 12 for I1 to I12, 13 for AN (Table 11-3). -/
def sourceNumber : AudioSource → Nat
  | .input i => i.val + 1
  | .an => 13

/-- The value of a 16-bit field in two's complement. -/
def twos (v : Nat) : Int := if v < 32768 then v else (v : Int) - 65536

/-- The field of a signed number. -/
def signedField (n : Int) : Nat × Nat := (2, (n % 65536).toNat)

def bit (x : Bool) : Nat := if x = true then 1 else 0

def cropFields (cl cr ct cb : Nat) : List (Nat × Nat) := [(2, cl), (2, cr), (2, ct), (2, cb)]

def colourFields (r g b : Nat) : List (Nat × Nat) := [(2, r), (2, g), (2, b)]

/-- Crop margins and colour components after clamping (R116). -/
def clampedCrop (cl cr ct cb : Nat) : Crop := ⟨min cl 1904, min cr 1904, min ct 1064, min cb 1064⟩

def clampedColour (r g b : Nat) : Colour :=
  ⟨BitVec.ofNat 10 (min r 1023), BitVec.ofNat 10 (min g 1023), BitVec.ofNat 10 (min b 1023)⟩

/-! ### The parts of a RESULT (Tables 11-6 to 11-11) -/

def Crop.fields (x : Crop) : List (Nat × Nat) := cropFields x.cl x.cr x.ct x.cb

def colourOf (x : Colour) : List (Nat × Nat) := colourFields x.r.toNat x.g.toNat x.b.toNat

/-- An inset entry of Table 11-6. -/
def InsetRequest.fields (r : InsetRequest) : List (Nat × Nat) :=
  [(1, number r.source)] ++ r.crop.fields ++ [signedField r.x, signedField r.y, (2, r.w), (2, r.h), (2, r.opacity),
    (1, r.border)] ++ colourOf r.colour

def Rect.fields (r : Rect) : List (Nat × Nat) := [signedField r.x, signedField r.y, (2, r.w), (2, r.h)]

/-- A plan as Table 11-7 lists it. -/
def Plan.fields (q : Plan) : List (Nat × Nat) :=
  [(1, q.service.code.toNat), (1, number q.source), (2, q.ws), (2, q.hs), (2, q.cl), (2, q.ct), (2, q.wc), (2, q.hc),
    (1, bit q.cropIgnored), (2, q.sh), (2, q.sv)] ++ q.p.fields ++ q.v.fields ++
    [(4, q.ph0), (4, q.pv0), (1, q.d), (1, number q.slot), (1, number q.scaler)]

/-- A frame format as Table 11-8 lists it, 0 when absent. -/
def formatFields : Option Format → List (Nat × Nat)
  | some x => [(2, x.width), (2, x.height), (4, x.period)]
  | none => [(2, 0), (2, 0), (4, 0)]

/-- A slot as Table 11-8 lists it; the raster of one that is not READY is 0 × 0 (R102). -/
def Slot.fields (x : Slot) : List (Nat × Nat) :=
  [(1, x.state.code.toNat), (2, x.seq), (2, if x.state = .ready then x.width else 0),
    (2, if x.state = .ready then x.height else 0), (1, x.readers)]

def windowsFields (ws : List WallWindow) : List (Nat × Nat) := (1, ws.length) :: ws.map fun w => (1, w.val + 1)

/-! ## The ID card (R76) -/

/-- The segments a digit lights: 0 top, 1 upper left, 2 upper right, 3 middle, 4 lower left, 5 lower right, 6 bottom. -/
def litSegments : List (List Nat) :=
  [[0, 1, 2, 4, 5, 6], [2, 5], [0, 2, 3, 4, 6], [0, 2, 3, 5, 6], [1, 2, 3, 5], [0, 1, 3, 5, 6], [0, 1, 3, 4, 5, 6],
    [0, 2, 5], [0, 1, 2, 3, 4, 5, 6], [0, 1, 2, 3, 5, 6]]

/-- First and last column in the cell, and first and last row, of each segment. -/
def segmentAreas : List (Nat × Nat × Nat × Nat) :=
  [(0, 239, 340, 379), (0, 39, 340, 539), (200, 239, 340, 539), (0, 239, 520, 559), (0, 39, 540, 739), (200, 239, 540, 739),
    (0, 239, 700, 739)]

/-- A pixel is lit by a digit in the cell whose first column is `x`. -/
def digitLit (digit x c r : Nat) : Prop :=
  ∃ g ∈ litSegments.getD digit [], ∃ a ∈ segmentAreas[g]?,
    x + a.1 ≤ c ∧ c ≤ x + a.2.1 ∧ a.2.2.1 ≤ r ∧ r ≤ a.2.2.2

/-- A pixel is lit on the card of a screen: one cell at column 840, or the digit 1 at 680 and the second digit at 1000. -/
def idCardLit (number c r : Nat) : Prop :=
  (number ≤ 9 ∧ digitLit number 840 c r) ∨ (10 ≤ number ∧ (digitLit 1 680 c r ∨ digitLit (number - 10) 1000 c r))

/-! ## Ranges (R116) -/

def Crop.InRange (c : Crop) : Prop := c.cl ≤ 1904 ∧ c.cr ≤ 1904 ∧ c.ct ≤ 1064 ∧ c.cb ≤ 1064

def InsetRequest.InRange (r : InsetRequest) : Prop :=
  r.crop.InRange ∧ -1919 ≤ r.x ∧ r.x ≤ 1919 ∧ -1079 ≤ r.y ∧ r.y ≤ 1079 ∧ 16 ≤ r.w ∧ r.w ≤ 3840 ∧
    16 ≤ r.h ∧ r.h ≤ 2160 ∧ r.opacity ≤ 256 ∧ r.border ≤ 15

def ScreenRecord.InRange (r : ScreenRecord) : Prop := r.main.crop.InRange ∧ ∀ k, (r.insets.get k).InRange

def ZoneRecord.InRange (r : ZoneRecord) : Prop :=
  r.contributions.length ≤ 4 ∧ (r.contributions.map (·.source)).Nodup ∧ (∀ c ∈ r.contributions, c.gain ≤ 2048) ∧
    r.level ≤ 1024 ∧ r.delay ≤ 200 ∧ r.duckGain ≤ 1024 ∧ r.announceGain ≤ 2048

def DetectorSettings.InRange (d : DetectorSettings) : Prop :=
  d.threshold ≤ 8388607 ∧ 1 ≤ d.nd ∧ d.nd ≤ 16 ∧ 1 ≤ d.nc ∧ d.nc ≤ 255

/-- A loop selection other than the connector is held by I11 and I12 alone (R80, R115). -/
def InputSettings.InRange (i : InputIx) (x : InputSettings) : Prop := x.holdTime ≤ 60 ∧ (x.loop ≠ none → 10 ≤ i.val)

/-- An edit as it may stand in a queue: clamped, and with its indices in range (R115, R116). -/
def Edit.InRange : Edit → Prop
  | .setMain _ _ req => req.crop.InRange
  | .setInset _ _ _ req => req.InRange
  | .clearInset _ _ _ => True
  | .clearScreen _ _ => True
  | .swap _ _ _ => True
  | .setScreen _ _ _ => True
  | .group base limit _ c => base ≤ limit ∧
      match c with
      | .main req => req.crop.InRange
      | .standby _ => True
      | .pattern _ => True
  | .pin _ minutes => minutes ≤ 240
  | .unpin _ => True
  | .setInput i x => x.InRange i
  | .setZone _ r d => r.InRange ∧ d.InRange
  | .snapshotCounters _ => True

/-! ## The laws -/

/-- Every record and every queued edit holds values of its ranges (R116, R138). -/
def SceneLaw (s : State) : Prop :=
  (∀ scr, (s.staged.get scr).InRange) ∧ (∀ scr, (s.comps.get scr).live.InRange) ∧
    (∀ z, (s.zones.get z).record.InRange) ∧ s.detector.settings.InRange ∧
    ∀ l, ∀ e ∈ (s.link l).edits, e.InRange

/-- The law of R154 for one link, with the barrier and the answered slot of R133, R134 and R166, and the counts of R125 and R168. -/
def LinkState.Lawful (x : LinkState) : Prop :=
  x.edits.length ≤ 8 ∧ x.replies.length ≤ 4 ∧ fifoLevel x.fifo ≤ 32 ∧ x.refusals ≤ 255 ∧
    (x.errors.badCheck ≤ 255 ∧ x.errors.length ≤ 255 ∧ x.errors.timeout ≤ 255 ∧ x.errors.overrun ≤ 255 ∧
      x.errors.framing ≤ 255 ∧ x.errors.breaks ≤ 255) ∧
    match x.query with
    | .empty => x.barrier = none
    | .waiting _ _ => ∃ n, x.barrier = some n ∧ n ≤ x.edits.length
    | .answered _ => x.barrier = none ∧ x.replies.length = 4

def LinkLaw (s : State) : Prop := ∀ l, (s.link l).Lawful

/-- A sample of the 24-bit range. -/
def Sample24 (n : Int) : Prop := -8388608 ≤ n ∧ n ≤ 8388607

/-- The zone outputs and delay lines hold 24-bit samples, and the audio counts their ranges (R98, R138, R144 to R147). -/
def AudioLaw (s : State) : Prop :=
  (∀ z, Sample24 (s.zones.get z).out.1 ∧ Sample24 (s.zones.get z).out.2 ∧
    (∀ y ∈ (s.zones.get z).line, Sample24 y.1 ∧ Sample24 y.2) ∧
    (s.zones.get z).line.length ≤ 9600 ∧ (s.zones.get z).clipCount ≤ 65535) ∧
  s.detector.run ≤ 255 ∧ s.detector.peak ≤ 8388608 ∧ s.detector.pos < 480 ∧
  ∀ i, (s.fronts.get i).fifo.length ≤ 4096

/-- What a front end holds in each monitor state, and the ranges of its counts (R80, R84 to R86, R90, R94 to R97). -/
def FrontEnd.Lawful (f : FrontEnd) : Prop :=
  (match f.monitor with
    | .lost => f.candidate = none ∧ f.acqCount = 0 ∧ f.missCount = 0 ∧ f.acqTimer = none ∧ f.missLeft = none
    | .acquiring => f.candidate ≠ none ∧ 1 ≤ f.acqCount ∧ f.acqTimer ≠ none ∧ f.missLeft = none
    | .present => f.candidate = none ∧ f.latched ≠ none ∧ f.acqTimer = none ∧ f.missLeft ≠ none ∧ f.slate = .idle) ∧
  (f.slate = .holding ↔ f.slateTimer ≠ .stopped) ∧
  f.acqCount ≤ 30 ∧ f.missCount ≤ 30 ∧ f.captureCount < 65536 ∧ f.count ≤ 65535 ∧ f.snap ≤ 65535 ∧
  f.runCount ≤ 8 ∧ f.blockPos ≤ 63 ∧ f.blockErrors ≤ 7 ∧ f.holdTime ≤ 60

/-- The law of the front ends; SET_INPUT keeps it because queued hold times are clamped. -/
def FrontLaw (s : State) : Prop :=
  (∀ i, (s.fronts.get i).Lawful) ∧ ∀ l, ∀ e ∈ (s.link l).edits, e.InRange

/-- A Live plan reads a slot. -/
def Plan.names (q : Plan) (i : InputIx) (n : SlotIx) : Bool := q.source == some i && q.slot == some n

/-- The windows of the wall whose plans read a slot (R107). -/
def State.readersOf (s : State) (i : InputIx) (n : SlotIx) : Nat :=
  (List.finRange 64).countP fun w => (s.plan w).names i n

/-- The laws of the Frame Store (R103, R106, R107). -/
def RingLaw (s : State) : Prop :=
  (∀ i n, ((s.rings.get i).slots.get n).state = .filling ↔
    ∃ x, (s.fronts.get i).frame = some x ∧ x.slot = some n) ∧
  (∀ i n, (s.rings.get i).newest = some n → ((s.rings.get i).slots.get n).state = .ready) ∧
  (∀ i n, ((s.rings.get i).slots.get n).state ≠ .ready → ((s.rings.get i).slots.get n).readers = 0) ∧
  (∀ i n, ((s.rings.get i).slots.get n).readers = s.readersOf i n) ∧
  ∀ w, (s.plan w).slot ≠ none → (s.plan w).source ≠ none

/-- A list of windows whose screens have a Live class. -/
def State.allOfClass (s : State) (c : ScreenClass) (ws : List WallWindow) : Prop := ∀ w ∈ ws, s.classOf w = c

/-- The laws of the Scaler Pool and of STANDBY (R38, R40 to R42, R52, R66). -/
def PoolLaw (s : State) : Prop :=
  (∀ n w, s.pool.scalers.get n = .granted w ↔ (s.plan w).service = .granted ∧ (s.plan w).scaler = some n) ∧
  (∀ n w, s.pool.scalers.get n = .active w ↔ (s.plan w).service = .scaled ∧ (s.plan w).scaler = some n) ∧
  (∀ w, ((s.plan w).scaler ≠ none ↔ (s.plan w).service = .granted ∨ (s.plan w).service = .scaled)) ∧
  s.pool.waiting.Nodup ∧ (∀ w, w ∈ s.pool.waiting ↔ (s.plan w).service = .waiting) ∧
  (∀ w ∈ s.pool.waiting, s.classOf w ≠ .economy) ∧
  ((∃ n, s.pool.scalers.get n = .free) → s.pool.waiting = []) ∧
  s.pool.feature.Sublist s.pool.waiting ∧ s.allOfClass .feature s.pool.feature ∧
  s.pool.ambient.Sublist s.pool.waiting ∧ s.allOfClass .ambient s.pool.ambient ∧
  ∀ scr, (s.comps.get scr).run = .standby →
    (s.comps.get scr).timing = .stopped ∧
      ∀ k, ((s.comps.get scr).plans.get k).scaler = none ∧ ((s.comps.get scr).plans.get k).slot = none ∧
        (((s.comps.get scr).plans.get k).service = .off ∨ ((s.comps.get scr).plans.get k).service = .offscreen)

end Sys2Proof.Machine
end

