-- ==== Sys2Proof/Certificates/Slice0/Obligations.lean ====
section
/-! DEFINITION. The statements for the provers. Log entries are named where a clause is the model's choice. -/

open Sys2Proof Sys2Proof.Machine

/-! ## The queue of commands and the reset state -/

/-- The command at the front of the queue is run with the queue's rest. -/
def Obligations.StepRunsTheFrontCommand : Prop :=
  ∀ (c : Instr) (rest : List Instr) (s : State), s.pending = c :: rest → step s = exec c { s with pending := rest }

/-- No command stops, and no command touches the queue of commands.
That an ill-formed command runs like any other is the model's choice (log 25), and that every command answers a next state the model's reading (log 30): the spec names no event at which the part stops. -/
def Obligations.EveryCommandRunsAndKeepsTheQueue : Prop :=
  ∀ (c : Instr) (s : State), ∃ t, exec c s = .next t ∧ t.pending = s.pending

/-- POWER_ON sets every item to its power-on value and reads the straps; the first boundary comes within 450,000 reference periods (log 5).
The reading of the clock is the model's (log 1), and so is the form of a zone's delay line, with (0, 0) at Z-OUT (log 21).
State.reset is what it leaves with the straps at EQUAL and 115,200 (the model's choice of strap levels, log 4). -/
def Obligations.PowerOnSetsEveryItem : Prop :=
  exec (.powerOn .equal .baud115200 .baud115200) State.reset = .next State.reset ∧
  ∀ (rank : Rank) (rateA rateB : LineRate) (s : State), ∃ t, exec (.powerOn rank rateA rateB) s = .next t ∧
    t.clock = 0 ∧ t.rank = rank ∧ t.linkA = .powerOn rateA ∧ t.linkB = .powerOn rateB ∧ t.pending = s.pending ∧
    t.marker = .b ∧
    (∀ scr, (t.staged.get scr).settings =
        { cls := .ambient, rate := .hz60, standby := false, pattern := .none, background := ⟨0, 0, 0⟩ } ∧
      (t.staged.get scr).main = { source := none, crop := ⟨0, 0, 0, 0⟩ } ∧
      ∀ k, (t.staged.get scr).insets.get k =
        { source := none, crop := ⟨0, 0, 0, 0⟩, x := 0, y := 0, w := 480, h := 270, opacity := 256, border := 0,
          colour := ⟨0, 0, 0⟩ }) ∧
    (∀ scr, (t.comps.get scr).live = t.staged.get scr ∧ (t.comps.get scr).run = .active ∧
      (t.comps.get scr).timing = .starting 450000 ∧ ∀ k, (t.comps.get scr).plans.get k = .off) ∧
    (∀ n, t.pool.scalers.get n = .free) ∧ t.pool.waiting = [] ∧ t.pool.feature = [] ∧ t.pool.ambient = [] ∧
    (∀ i, t.fronts.get i = .powerOn) ∧
    (∀ i, (t.rings.get i).newest = none ∧ ∀ n, (t.rings.get i).slots.get n = .free) ∧
    (∀ scr, t.pins.get scr = { owner := none, lapse := 0 } ∧ t.holds.get scr = { holder := none, ms := 0 }) ∧
    (∀ z, t.zones.get z = .powerOn) ∧
    t.detector =
      { state := .idle, run := 0, peak := 0, pos := 0, due := false, settings := { threshold := 8388607, nd := 2, nc := 50 } }

/-! ## Requests -/

/-- Each of the twelve edits, when it passes its checks and the queue has room, goes to the tail of the edit queue with an ACK, and nothing else changes. -/
def Obligations.EditRequestIsQueuedAndAcknowledged : Prop :=
  ∀ (k : EditKind) (l : Link) (tag : Byte) (f : List Byte) (s : State) (e : Edit),
    s.ready l → k.lengthOk f = true → readEdit k f = .ok e → (s.link l).edits.length < 8 →
    exec (editCommand k l tag f) s =
      .next (s.setLink l { (s.link l).replied s.clock [0x80, tag, k.code] with edits := (s.link l).edits ++ [e] })

/-- The lengths of Table 11-1, two more than the fields a command carries; SET_ZONE's is 19 + 3n for the count n of 0 to 4 at offset 18.
A request with a bad length, an edit with a bad field or a full queue, a query with an index out of range or a slot that is not EMPTY, and a junior link's WALL_RESET each get their NAK, and nothing else changes. -/
def Obligations.RefusedRequestsChangeNothingElse : Prop :=
  (∀ (k : RequestKind) (f : List Byte),
    let length := f.length + 2
    k.lengthOk f = true ↔
      match k with
      | .edit .setMain => length = 13
      | .edit .setInset => length = 31
      | .edit .clearInset => length = 5
      | .edit .clearScreen => length = 4
      | .edit .swap => length = 5
      | .edit .setScreen => length = 14
      | .edit .group => length = 15
      | .edit .pin => length = 4
      | .edit .unpin => length = 3
      | .edit .setInput => length = 16
      | .edit .setZone => ∃ n : Byte, f[16]? = some n ∧ n.toNat ≤ 4 ∧ length = 19 + 3 * n.toNat
      | .edit .snapshotCounters => length = 4
      | .query .readScreen => length = 3
      | .query .readWindow => length = 3
      | .query .readInput => length = 3
      | .query .readZone => length = 3
      | .query .readPool => length = 2
      | .query .readCounters => length = 2
      | .query .readLink => length = 2
      | .identify => length = 2
      | .takeEvents => length = 2
      | .setEvents => length = 7
      | .wallReset => length = 2
      | .linkReset => length = 2) ∧
  ∀ (l : Link) (tag : Byte) (f : List Byte) (s : State), s.ready l →
    let refused := fun kind reason : Byte => s.setLink l ((s.link l).replied s.clock [0x81, tag, kind, reason])
    (∀ k : RequestKind, k.lengthOk f = false → exec (requestCommand k l tag f) s = .next (refused k.code 0x02)) ∧
    (∀ (k : EditKind) r, k.lengthOk f = true → readEdit k f = .error r →
      exec (editCommand k l tag f) s = .next (refused k.code r.code)) ∧
    (∀ (k : EditKind) e, k.lengthOk f = true → readEdit k f = .ok e → 8 ≤ (s.link l).edits.length →
      exec (editCommand k l tag f) s = .next (refused k.code 0x07)) ∧
    (∀ k : QueryKind, k.lengthOk f = true → readQuery k f = none →
      exec (queryCommand k l tag f) s = .next (refused k.code 0x03)) ∧
    (∀ (k : QueryKind) q, k.lengthOk f = true → readQuery k f = some q → (s.link l).query ≠ .empty →
      exec (queryCommand k l tag f) s = .next (refused k.code 0x08)) ∧
    (senior s.rank l.other = true → f = [] → exec (.wallReset l tag f) s = .next (refused 0x33 0x09))

/-- Each of the seven queries, with its index in range and the slot EMPTY, makes the slot WAITING, sets the barrier at the tail of the edit queue, and is acknowledged.
The index of a query is a screen of 1 to 16, a window of 1 to 64, an input of 1 to 12 or a zone of 1 to 4; the other three queries have none. -/
def Obligations.QueryRequestIsAccepted : Prop :=
  (∀ (k : QueryKind) (l : Link) (tag : Byte) (f : List Byte) (s : State) (q : Query),
    s.ready l → k.lengthOk f = true → readQuery k f = some q → (s.link l).query = .empty →
    exec (queryCommand k l tag f) s =
      .next (s.setLink l
        { (s.link l).replied s.clock [0x80, tag, k.code] with
          query := .waiting tag q, barrier := some (s.link l).edits.length })) ∧
  ∀ (n : Byte) (q : Query),
    (readQuery .readScreen [n] = some q ↔ ∃ scr : ScreenIx, n.toNat = scr.val + 1 ∧ q = .screen scr) ∧
    (readQuery .readWindow [n] = some q ↔ ∃ w : WallWindow, n.toNat = w.val + 1 ∧ q = .window w) ∧
    (readQuery .readInput [n] = some q ↔ ∃ i : InputIx, n.toNat = i.val + 1 ∧ q = .input i) ∧
    (readQuery .readZone [n] = some q ↔ ∃ z : ZoneIx, n.toNat = z.val + 1 ∧ q = .zone z) ∧
    (readQuery .readScreen [n] = none ↔ n.toNat = 0 ∨ 16 < n.toNat) ∧
    (readQuery .readWindow [n] = none ↔ n.toNat = 0 ∨ 64 < n.toNat) ∧
    (readQuery .readInput [n] = none ↔ n.toNat = 0 ∨ 12 < n.toNat) ∧
    (readQuery .readZone [n] = none ↔ n.toNat = 0 ∨ 4 < n.toNat) ∧
    readQuery .readPool [] = some .pool ∧ readQuery .readCounters [] = some .counters ∧ readQuery .readLink [] = some .link

/-- IDENTIFY is answered by IDENTITY: part code 1612, the counts 12, 16, 4 and 20, the link, the rank and the link's rate. -/
def Obligations.IdentifyIsAnswered : Prop :=
  ∀ (l : Link) (tag : Byte) (s : State), s.ready l →
    exec (.identify l tag []) s =
      .next (s.setLink l ((s.link l).replied s.clock
        [0x84, tag, 0x06, 0x4C, 12, 16, 4, 20, (match l with | .a => 1 | .b => 2),
          (match s.rank with | .equal => 0 | .aSenior => 1 | .bSenior => 2),
          (match (s.link l).rate with | .baud115200 => 0 | .baud460800 => 1)]))

/-- TAKE_EVENTS returns the EVENTS of its link and clears latches, index sets, refusal record and refusal count; the line is released. -/
def Obligations.TakeEventsReturnsAndClears : Prop :=
  ∀ (l : Link) (tag : Byte) (s : State), s.ready l →
    ∃ t, exec (.takeEvents l tag []) s = .next t ∧
      t = s.setLink l
        { (s.link l).replied s.clock ((s.link l).eventsBody tag) with
          events := { (s.link l).events with latches := Table.fill 12 false, sets := Table.fill 12 0 }
          record := none, refusals := 0 } ∧
      t.attention l = false

/-- SET_EVENTS writes the twelve enables and the three edge modes of its link, or is refused with BAD_VALUE.
An event latched sets its kind's latch and, where it has an index, adds that to the kind's set; a link's attention line is driven low exactly while a latch of it is set and enabled. -/
def Obligations.SetEventsWritesEnablesAndModes : Prop :=
  (∀ (s : State) (l : Link), s.attention l = true ↔
    ∃ k, (s.link l).events.latches.get k = true ∧ (s.link l).events.enables.get k = true) ∧
  [EventKind.inputState, .rasterChange, .checkSync, .counterOverflow, .scalerWait, .editRefused, .pinTaken, .pinLapsed,
    .holdExpired, .announce, .audioClip, .wallReset].map EventKind.ix = List.finRange 12 ∧
  (∀ (e : EventState) (k : EventKind) (index : Option Nat),
    let t := e.latch k index
    t = { e with latches := t.latches, sets := t.sets } ∧
    (∀ j, t.latches.get j = (e.latches.get j || decide (j = k.ix))) ∧
    ∀ (j : Fin 12) (n : Fin 16), (t.sets.get j).getLsbD n.val =
      ((e.sets.get j).getLsbD n.val || (decide (j = k.ix) && decide (index = some n.val)))) ∧
  ∀ (l : Link) (tag hi lo i c a : Byte) (s : State), s.ready l →
    (i.toNat ≤ 1 ∧ c.toNat ≤ 1 ∧ a.toNat ≤ 1 →
      exec (.setEvents l tag [hi, lo, i, c, a]) s =
        .next (s.setLink l
          { (s.link l).replied s.clock [0x80, tag, 0x32] with
            events :=
              { (s.link l).events with
                enables := Table.tab 12 fun k => (hi.toNat * 256 + lo.toNat).testBit k.val
                inputMode := if i = 0 then .any else .lossOnly
                checkMode := if c = 0 then .any else .lossOnly
                announceMode := if a = 0 then .any else .startOnly } })) ∧
    (¬ (i.toNat ≤ 1 ∧ c.toNat ≤ 1 ∧ a.toNat ≤ 1) →
      exec (.setEvents l tag [hi, lo, i, c, a]) s =
        .next (s.setLink l ((s.link l).replied s.clock [0x81, tag, 0x32, 0x05])))

/-- A WALL_RESET of a link that is not junior: what it sets and what it keeps.
A screen in STANDBY begins a lead-in frame, and a screen that has not begun its first frame still waits for it (the model's reading, log 27).
A zone's empty delay line is the model's form (log 21).
An input looped from a screen that wakes takes the start of its lead-in frame in the same event (log 16); every other front end stands. -/
def Obligations.WallResetSetsAndKeeps : Prop :=
  ∀ (l : Link) (tag : Byte) (s : State), s.ready l → senior s.rank l.other = false →
    let freed := { s with rings := Table.tab 12 fun i =>
      { newest := (s.rings.get i).newest
        slots := Table.tab 4 fun n =>
          if ((s.rings.get i).slots.get n).state = SlotState.ready ∧ (s.rings.get i).newest ≠ some n then
            { state := .free, seq := 0, width := 0, height := 0, readers := 0, lines := [] }
          else { (s.rings.get i).slots.get n with readers := 0 } } }
    ∃ t, exec (.wallReset l tag []) s = .next t ∧
      (∀ scr, t.staged.get scr = .powerOn ∧ (t.comps.get scr).live = .powerOn ∧ (t.comps.get scr).run = .active ∧
        (∀ k, (t.comps.get scr).plans.get k = .off) ∧
        (t.comps.get scr).timing =
          (if (s.comps.get scr).timing = .stopped then .running 450000 450000 true else (s.comps.get scr).timing)) ∧
      t.pool = .initial ∧
      (∀ scr, t.pins.get scr = .clear ∧ t.holds.get scr = .clear) ∧
      (∀ z, (t.zones.get z).record = .powerOn ∧ (t.zones.get z).line = [] ∧ (t.zones.get z).curMark = false ∧
        (t.zones.get z).prevMark = false ∧ (t.zones.get z).clipCount = 0) ∧
      (∀ i n, ((t.rings.get i).slots.get n).readers = 0 ∧ (t.rings.get i).newest = (s.rings.get i).newest) ∧
      (∀ k, (t.link k).edits = [] ∧ (t.link k).barrier = none ∧ (t.link k).record = none ∧ (t.link k).refusals = 0 ∧
        (∀ j, (t.link k).events.latches.get j = decide (j = 11)) ∧ (∀ j, (t.link k).events.sets.get j = 0) ∧
        (t.link k).events.enables = (s.link k).events.enables ∧ (t.link k).parser = (s.link k).parser ∧
        (t.link k).events.inputMode = (s.link k).events.inputMode ∧
        (t.link k).events.checkMode = (s.link k).events.checkMode ∧
        (t.link k).events.announceMode = (s.link k).events.announceMode ∧
        (t.link k).fifo = (s.link k).fifo ∧ (t.link k).errors = (s.link k).errors ∧
        (t.link k).query =
          (match (s.link k).query with
            | .waiting _ _ => .empty
            | .answered body => .answered body
            | .empty => .empty)) ∧
      (t.link l).replies = (s.link l).replies ++ [[0x80, tag, 0x33]] ∧
      (t.link l.other).replies = (s.link l.other).replies ∧
      (∀ i, (∀ scr, (s.fronts.get i).loop = some scr → (s.comps.get scr).timing ≠ .stopped) →
        t.fronts.get i = s.fronts.get i ∧ t.rings.get i = freed.rings.get i) ∧
      (∀ i scr, (s.fronts.get i).loop = some scr → (s.comps.get scr).timing = .stopped →
        t.fronts.get i = (freed.frameStart i).fronts.get i ∧ t.rings.get i = (freed.frameStart i).rings.get i) ∧
      t.marker = s.marker ∧ t.detector = s.detector ∧ t.rank = s.rank ∧ t.clock = s.clock

/-- LINK_RESET returns the link to its power-on values but for its rate and error counts, releases its holds, and is answered by RESET_DONE; nothing else changes. The rest of a character being sent is sent first, and where one begins at the very moment of the reset, that one whole (the model's choice, log 19). -/
def Obligations.LinkResetClearsItsLink : Prop :=
  ∀ (l : Link) (tag : Byte) (s : State), s.ready l →
    exec (.linkReset l tag []) s =
      .next
        { s.setLink l
            { LinkState.powerOn (s.link l).rate with
              errors := (s.link l).errors
              replies := [[0x85, tag]]
              txLeft :=
                (if (s.link l).txLeft = 0 then 0 else ((s.link l).txLeft - 1) % charUnits (s.link l).rate + 1) +
                  5 * charUnits (s.link l).rate } with
          holds := s.holds.map fun h => if h.holder = some l then { holder := none, ms := 0 } else h }

/-- A frame whose kind byte names no request kind gets UNKNOWN_KIND, and nothing else changes. -/
def Obligations.UnknownKindIsRefused : Prop :=
  ∀ (l : Link) (kind tag : Byte) (f : List Byte) (s : State), s.ready l → isRequestCode kind = false →
    exec (.unknownKind l kind tag f) s = .next (s.setLink l ((s.link l).replied s.clock [0x81, tag, kind, 0x01]))

/-- A request that completes with four replies in the queue is held in COMPLETE unanswered. -/
def Obligations.FullReplyQueueHoldsTheFrame : Prop :=
  ∀ (k : RequestKind) (l : Link) (tag : Byte) (f : List Byte) (s : State),
    (s.link l).quiet = true → 4 ≤ (s.link l).replies.length →
    exec (requestCommand k l tag f) s =
      .next (s.setLink l
        { s.link l with
          lastArrival := some s.clock, zero := .none
          parser := { phase := .complete (k.code :: tag :: f), rescan := [] } })

/-- An edit that passes its checks is of its kind, and its fields lie in the ranges of R116.
For each kind but GROUP, which has its own statement, the fields of the request in their order (Tables 11-1, 11-3 and 11-4), what the queued edit holds of them, and the reason of each refusal. -/
def Obligations.AcceptedEditsAreInRange : Prop :=
  (∀ (k : EditKind) (f : List Byte) (e : Edit), k.lengthOk f = true → readEdit k f = .ok e → e.kind = k ∧ e.InRange) ∧
  (∀ flags screen source cl cr ct cb : Nat,
    let f := [(1, flags), (1, screen), (1, source)] ++ cropFields cl cr ct cb
    Fits f →
    (∀ (scr : ScreenIx) (src : Option InputIx), screen = scr.val + 1 → source = number src →
      readEdit .setMain (layout f) =
        .ok (.setMain (decide (flags % 2 = 1)) scr { source := src, crop := clampedCrop cl cr ct cb })) ∧
    (screen = 0 ∨ 16 < screen ∨ 12 < source → readEdit .setMain (layout f) = .error .badIndex)) ∧
  (∀ flags screen inset source cl cr ct cb x y w h opacity border r g b : Nat,
    let f := [(1, flags), (1, screen), (1, inset), (1, source)] ++ cropFields cl cr ct cb ++
      [(2, x), (2, y), (2, w), (2, h), (2, opacity), (1, border)] ++ colourFields r g b
    Fits f →
    (∀ (scr : ScreenIx) (k : InsetIx) (src : Option InputIx), screen = scr.val + 1 → inset = k.val + 1 →
      source = number src →
      readEdit .setInset (layout f) =
        .ok (.setInset (decide (flags % 2 = 1)) scr k
          { source := src, crop := clampedCrop cl cr ct cb
            x := max (-1919) (min 1919 (twos x)), y := max (-1079) (min 1079 (twos y))
            w := max 16 (min 3840 w), h := max 16 (min 2160 h), opacity := min 256 opacity, border := min 15 border
            colour := clampedColour r g b })) ∧
    (screen = 0 ∨ 16 < screen ∨ inset = 0 ∨ 3 < inset ∨ 12 < source →
      readEdit .setInset (layout f) = .error .badIndex)) ∧
  (∀ flags screen inset : Nat,
    let f := [(1, flags), (1, screen), (1, inset)]
    Fits f →
    (∀ (scr : ScreenIx) (k : InsetIx), screen = scr.val + 1 → inset = k.val + 1 →
      readEdit .clearInset (layout f) = .ok (.clearInset (decide (flags % 2 = 1)) scr k) ∧
      readEdit .swap (layout f) = .ok (.swap (decide (flags % 2 = 1)) scr k)) ∧
    (screen = 0 ∨ 16 < screen ∨ inset = 0 ∨ 3 < inset →
      readEdit .clearInset (layout f) = .error .badIndex ∧ readEdit .swap (layout f) = .error .badIndex)) ∧
  (∀ flags screen minutes : Nat, Fits [(1, flags), (1, screen), (1, minutes)] →
    (∀ scr : ScreenIx, screen = scr.val + 1 →
      readEdit .clearScreen (layout [(1, flags), (1, screen)]) = .ok (.clearScreen (decide (flags % 2 = 1)) scr) ∧
      readEdit .pin (layout [(1, screen), (1, minutes)]) = .ok (.pin scr (min 240 minutes)) ∧
      readEdit .unpin (layout [(1, screen)]) = .ok (.unpin scr)) ∧
    (screen = 0 ∨ 16 < screen →
      readEdit .clearScreen (layout [(1, flags), (1, screen)]) = .error .badIndex ∧
      readEdit .pin (layout [(1, screen), (1, minutes)]) = .error .badIndex ∧
      readEdit .unpin (layout [(1, screen)]) = .error .badIndex)) ∧
  (∀ flags screen cls rate standby pattern r g b : Nat,
    let f := [(1, flags), (1, screen), (1, cls), (1, rate), (1, standby), (1, pattern)] ++ colourFields r g b
    Fits f →
    (∀ (scr : ScreenIx) (c : ScreenClass) (x : Rate) (on : Bool) (p : Pattern), screen = scr.val + 1 →
      cls = c.code.toNat → rate = x.code.toNat → standby = bit on → pattern = p.code.toNat →
      readEdit .setScreen (layout f) =
        .ok (.setScreen (decide (flags % 2 = 1)) scr
          { cls := c, rate := x, standby := on, pattern := p, background := clampedColour r g b })) ∧
    (screen = 0 ∨ 16 < screen → readEdit .setScreen (layout f) = .error .badIndex) ∧
    (1 ≤ screen → screen ≤ 16 → 2 < cls ∨ 2 < rate ∨ 1 < standby ∨ 4 < pattern →
      readEdit .setScreen (layout f) = .error .badValue)) ∧
  (∀ input criterion slate hold r g b lp checker kind mode : Nat,
    let f := [(1, input), (1, criterion), (1, slate), (1, hold)] ++ colourFields r g b ++
      [(1, lp), (1, checker), (1, kind), (1, mode)]
    Fits f →
    (∀ (i : InputIx) (c : Criterion) (m : SlateMode) (dest : Option ScreenIx) (on : Bool) (n : CounterKind)
        (sm : SnapshotMode), input = i.val + 1 → (dest ≠ none → 10 ≤ i.val) → criterion = c.code.toNat →
      slate = m.code.toNat → lp = number dest → checker = bit on → kind = n.code.toNat → mode = sm.code.toNat →
      readEdit .setInput (layout f) =
        .ok (.setInput i
          { criterion := c, slateMode := m, holdTime := min 60 hold, fillColour := clampedColour r g b, loop := dest
            checkerOn := on, counterKind := n, snapshotMode := sm })) ∧
    (input = 0 ∨ 12 < input ∨ (input ≤ 10 ∧ lp ≠ 0) ∨ 16 < lp → readEdit .setInput (layout f) = .error .badIndex) ∧
    (1 ≤ input → input ≤ 12 → (lp = 0 ∨ (10 < input ∧ lp ≤ 16)) →
      1 < criterion ∨ 1 < slate ∨ 1 < checker ∨ 3 < kind ∨ 1 < mode →
      readEdit .setInput (layout f) = .error .badValue)) ∧
  (∀ (zone mode follow level delay duck duckGain announceGain threshold nd nc : Nat) (list : List (Nat × Nat)),
    let f := [(1, zone), (1, mode), (1, follow), (2, level), (1, delay), (1, duck), (2, duckGain), (2, announceGain),
      (3, threshold), (1, nd), (1, nc), (1, list.length)] ++ list.flatMap fun c => [(1, c.1), (2, c.2)]
    Fits f → list.length ≤ 4 →
    (∀ (z : ZoneIx) (m : ZoneMode) (scr : ScreenIx) (on : Bool) (sources : List AudioSource), zone = z.val + 1 →
      follow = scr.val + 1 → list.map Prod.fst = sources.map sourceNumber → mode = m.code.toNat → duck = bit on →
      sources.Nodup →
      readEdit .setZone (layout f) =
        .ok (.setZone z
          { mode := m, follow := scr
            contributions := (sources.zip (list.map Prod.snd)).map fun c => { source := c.1, gain := min 2048 c.2 }
            level := min 1024 level, delay := min 200 delay, duckEnable := on, duckGain := min 1024 duckGain
            announceGain := min 2048 announceGain }
          { threshold := min 8388607 threshold, nd := max 1 (min 16 nd), nc := max 1 (min 255 nc) })) ∧
    let indexBad := zone = 0 ∨ 4 < zone ∨ follow = 0 ∨ 16 < follow ∨ ∃ c ∈ list, c.1 = 0 ∨ 13 < c.1
    (indexBad → readEdit .setZone (layout f) = .error .badIndex) ∧
    (¬ indexBad → 2 < mode ∨ 1 < duck → readEdit .setZone (layout f) = .error .badValue) ∧
    (¬ indexBad → mode ≤ 2 → duck ≤ 1 → ¬ (list.map Prod.fst).Nodup →
      readEdit .setZone (layout f) = .error .duplicateSource)) ∧
  ∀ inputs : Nat, Fits [(2, inputs)] →
    (inputs < 4096 →
      readEdit .snapshotCounters (layout [(2, inputs)]) = .ok (.snapshotCounters (BitVec.ofNat 12 inputs))) ∧
    (4096 ≤ inputs → readEdit .snapshotCounters (layout [(2, inputs)]) = .error .badIndex)

/-- The field checks of a GROUP, in the order BAD_INDEX, BAD_RANGE, BAD_VALUE; the value byte is read by its sub-kind.
A GROUP that passes them holds its bounds, bit 0 of its invert byte, and the change its sub-kind names. -/
def Obligations.GroupChecksComeInOrder : Prop :=
  (∀ base limit flags sub value : Byte, ∀ crop : List Byte,
    let bad := fun b : Byte => b.toNat = 0 ∨ 16 < b.toNat
    (match readEdit .group (base :: limit :: flags :: sub :: value :: crop) with
      | .error r => some r
      | .ok _ => none) =
    if bad base ∨ bad limit ∨ (sub.toNat = 0 ∧ 12 < value.toNat) then some .badIndex
    else if limit.toNat < base.toNat then some .badRange
    else if 2 < sub.toNat ∨ (sub.toNat = 1 ∧ 1 < value.toNat) ∨ (sub.toNat = 2 ∧ 4 < value.toNat) then some .badValue
    else none) ∧
  ∀ (base limit : ScreenIx) (flags cl cr ct cb : Nat), base ≤ limit → Fits ((1, flags) :: cropFields cl cr ct cb) →
    let request := fun sub value : Nat =>
      layout ([(1, base.val + 1), (1, limit.val + 1), (1, flags), (1, sub), (1, value)] ++ cropFields cl cr ct cb)
    let group := fun c : GroupChange => Edit.group base limit (decide (flags % 2 = 1)) c
    (∀ src : Option InputIx,
      readEdit .group (request 0 (number src)) =
        .ok (group (.main { source := src, crop := clampedCrop cl cr ct cb }))) ∧
    (∀ on : Bool, readEdit .group (request 1 (bit on)) = .ok (group (.standby on))) ∧
    ∀ p : Pattern, readEdit .group (request 2 p.code.toNat) = .ok (group (.pattern p))

/-! ## The Scene Editor -/

/-- A barrier with no edit ahead of it makes a link's edits ineligible; with both links eligible the one the marker does not name is taken. -/
def Obligations.AlternationChoosesTheLink : Prop :=
  ∀ (s : State),
    let head := fun l : Link => if (s.link l).barrier = some 0 then none else (s.link l).edits.head?
    (∀ l e, head l = some e → head l.other = none → s.chosen = some (l, e)) ∧
    (∀ l e e', head l = some e → head l.other = some e' → s.marker = l.other → s.chosen = some (l, e)) ∧
    ((∀ l, head l = none) → s.chosen = none)

/-- The five layout edits, admitted: the fields each writes in the Staged record of its screen, and the hold; nothing else changes but the queue it was taken from. -/
def Obligations.LayoutEditsWriteTheirScreen : Prop :=
  ∀ (s : State) (l : Link) (hold : Bool) (scr : ScreenIx),
    ¬ s.PinStops l scr → ¬ s.HoldStops l scr hold →
    (∀ req, s.chosen = some (l, .setMain hold scr req) →
      exec .applySetMain s = .next (s.afterScreenEdit l hold scr { s.staged.get scr with main := req })) ∧
    (∀ k req, s.chosen = some (l, .setInset hold scr k req) →
      exec .applySetInset s =
        .next (s.afterScreenEdit l hold scr
          { s.staged.get scr with insets := (s.staged.get scr).insets.set k req })) ∧
    (∀ k, s.chosen = some (l, .clearInset hold scr k) →
      exec .applyClearInset s =
        .next (s.afterScreenEdit l hold scr
          { s.staged.get scr with
            insets := (s.staged.get scr).insets.set k { (s.staged.get scr).insets.get k with source := none } })) ∧
    (s.chosen = some (l, .clearScreen hold scr) →
      exec .applyClearScreen s =
        .next (s.afterScreenEdit l hold scr
          { s.staged.get scr with
            main := { (s.staged.get scr).main with source := none }
            insets := Table.tab 3 fun k => { (s.staged.get scr).insets.get k with source := none } })) ∧
    (∀ k, s.chosen = some (l, .swap hold scr k) →
      exec .applySwap s =
        .next (s.afterScreenEdit l hold scr
          { s.staged.get scr with
            main := { source := ((s.staged.get scr).insets.get k).source, crop := ((s.staged.get scr).insets.get k).crop }
            insets := (s.staged.get scr).insets.set k
              { (s.staged.get scr).insets.get k with
                source := (s.staged.get scr).main.source, crop := (s.staged.get scr).main.crop } }))

/-- SET_SCREEN, admitted, writes the five settings; it wakes a screen in STANDBY when it turns the Staged flag off, copying the flag alone to Live and beginning a lead-in frame of one Live period.
Inputs looped from the screen take the start of that frame in the same event (log 16). -/
def Obligations.SetScreenWritesSettingsAndWakes : Prop :=
  ∀ (s : State) (l : Link) (hold : Bool) (scr : ScreenIx) (x : Settings),
    ¬ s.PinStops l scr → ¬ s.HoldStops l scr hold → s.chosen = some (l, .setScreen hold scr x) →
    let wakes := (s.staged.get scr).settings.standby = true ∧ x.standby = false ∧ (s.comps.get scr).run = .standby
    let written := s.afterScreenEdit l hold scr { s.staged.get scr with settings := x }
    (¬ wakes → exec .applySetScreen s = .next written) ∧
    (wakes →
      exec .applySetScreen s =
        .next ({ written with comps := s.comps.set scr (s.comps.get scr).awake }.startLoopedFrames scr))

/-- The gate: a screen edit that the other link's pin stops is refused with PINNED, and one that only its hold stops with HELD; the refused edit writes nothing. -/
def Obligations.GateRefusesPinnedAndHeldScreens : Prop :=
  ∀ (s : State) (l : Link) (e : Edit) (hold : Bool) (scr : ScreenIx),
    s.chosen = some (l, e) → e.screenPart = some (hold, scr) →
    (s.PinStops l scr → exec (applyCommand e.kind) s = .next (s.afterRefusedEdit l e.kind scr .pinned)) ∧
    (¬ s.PinStops l scr → s.HoldStops l scr hold →
      exec (applyCommand e.kind) s = .next (s.afterRefusedEdit l e.kind scr .held))

/-- PIN by the owner of the screen and the rank, its minutes clamped at acceptance. -/
def Obligations.PinByOwnerAndRank : Prop :=
  (∀ number minutes : Byte, 1 ≤ number.toNat → number.toNat ≤ 16 →
    ∃ scr : ScreenIx, scr.val + 1 = number.toNat ∧
      (match readEdit .pin [number, minutes] with
        | .ok e => e = .pin scr (min 240 minutes.toNat)
        | .error _ => False)) ∧
  ∀ (s : State) (l : Link) (scr : ScreenIx) (minutes : Nat), s.chosen = some (l, .pin scr minutes) →
    let pinned := { s.afterTaking l with pins := s.pins.set scr { owner := some l, lapse := minutes * 60 } }
    ((s.pins.get scr).owner = none ∨ (s.pins.get scr).owner = some l → exec .applyPin s = .next pinned) ∧
    ((s.pins.get scr).owner = some l.other → senior s.rank l = true →
      exec .applyPin s =
        .next (pinned.setLink l.other
          { s.link l.other with events := (s.link l.other).events.latch .pinTaken (some scr.val) })) ∧
    ((s.pins.get scr).owner = some l.other → senior s.rank l = false →
      exec .applyPin s = .next (s.afterRefusedEdit l .pin scr .pinned))

/-- UNPIN by the owner of the screen and the rank. -/
def Obligations.UnpinByOwnerAndRank : Prop :=
  ∀ (s : State) (l : Link) (scr : ScreenIx), s.chosen = some (l, .unpin scr) →
    let unpinned := { s.afterTaking l with pins := s.pins.set scr { owner := none, lapse := 0 } }
    ((s.pins.get scr).owner = none → exec .applyUnpin s = .next (s.afterTaking l)) ∧
    ((s.pins.get scr).owner = some l → exec .applyUnpin s = .next unpinned) ∧
    ((s.pins.get scr).owner = some l.other → senior s.rank l = true →
      exec .applyUnpin s =
        .next (unpinned.setLink l.other
          { s.link l.other with events := (s.link l.other).events.latch .pinTaken (some scr.val) })) ∧
    ((s.pins.get scr).owner = some l.other → senior s.rank l = false →
      exec .applyUnpin s = .next (s.afterRefusedEdit l .unpin scr .pinned))

/-- GROUP writes every screen of its set that passes the pin test, and its link counts every one that does not; holds and pins stand.
A GROUP of STANDBY off wakes each screen of the set that is in STANDBY with its Staged flag on, copying the flag alone to Live and beginning a lead-in frame; every other compositor stands, a skipped screen's among them.
Inputs looped from a woken screen take the start of its frame in the same event (log 16). -/
def Obligations.GroupWritesTheUnpinnedScreens : Prop :=
  ∀ (s : State) (l : Link) (base limit : ScreenIx) (invert : Bool) (c : GroupChange),
    s.chosen = some (l, .group base limit invert c) →
    let inSet := fun k : ScreenIx => (decide (base ≤ k) && decide (k ≤ limit)) != invert
    let stops := fun k : ScreenIx => (s.pins.get k).owner == some l.other && !senior s.rank l
    let skipped := (List.finRange 16).filter fun k => inSet k && stops k
    let wakes := fun k : ScreenIx => inSet k && !stops k && decide (c = .standby false) &&
      (s.staged.get k).settings.standby && (s.comps.get k).run == .standby
    ∃ t, exec .applyGroup s = .next t ∧
      t = { s.afterTaking l with
            staged := t.staged, comps := t.comps, fronts := t.fronts, rings := t.rings
            linkA := t.linkA, linkB := t.linkB } ∧
      (∀ k, t.staged.get k =
        if inSet k && !stops k then
          (match c with
            | .main req => { s.staged.get k with main := req }
            | .standby on => { s.staged.get k with settings := { (s.staged.get k).settings with standby := on } }
            | .pattern p => { s.staged.get k with settings := { (s.staged.get k).settings with pattern := p } })
        else s.staged.get k) ∧
      (∀ k, t.comps.get k = if wakes k then (s.comps.get k).awake else s.comps.get k) ∧
      (∀ i, (∀ k, (s.fronts.get i).loop = some k → wakes k = false) →
        t.fronts.get i = s.fronts.get i ∧ t.rings.get i = s.rings.get i) ∧
      (∀ i k, (s.fronts.get i).loop = some k → wakes k = true →
        t.fronts.get i = (s.frameStart i).fronts.get i ∧ t.rings.get i = (s.frameStart i).rings.get i) ∧
      t.link l.other = s.link l.other ∧
      (skipped = [] → t.link l = (s.link l).afterApplication) ∧
      ∀ first rest, skipped = first :: rest →
        t.link l =
          { (s.link l).afterApplication with
            record := some ((s.link l).record.getD { kind := 0x16, screen := first, reason := .pinned })
            refusals := min 255 ((s.link l).refusals + (rest.length + 1))
            events := (s.link l).events.latch .editRefused none }

/-- SET_INPUT writes every setting of its input: the whole front end after it, its ring, and the events raised; other inputs, the scene and the audio stand.
A changed loop selection discards the frame in progress with its slot, clears the previous frame start and the audio, takes the input to LOST with INPUT_STATE when it was not LOST, and a checker in SYNC to HUNT with CHECK_SYNC.
A SET_INPUT that writes the values already held leaves everything but the queue as it stands. -/
def Obligations.SetInputWritesEverySetting : Prop :=
  ∀ (s : State) (l : Link) (i : InputIx) (x : InputSettings), s.chosen = some (l, .setInput i x) →
    let f := s.fronts.get i
    let timer : HoldTimer := if x.holdTime = 0 then .indefinite else .running (x.holdTime * 1000)
    let moved : Prop := f.loop ≠ x.loop
    let lost : Prop := moved ∧ f.monitor ≠ .lost
    let unsynced : Prop := moved ∧ f.checker = .sync
    let slate : SlateState × HoldTimer :=
      if moved ∧ f.monitor = .present then
        (match x.slateMode with
          | .hold => (.holding, timer)
          | .fill => (.fill, .stopped))
      else if f.slateMode = .hold ∧ x.slateMode = .fill ∧ f.slate = .holding then (.fill, .stopped)
      else if f.slateMode = .fill ∧ x.slateMode = .hold ∧ f.slate = .fill ∧ f.monitor ≠ .present then (.holding, timer)
      else if f.slateMode = x.slateMode ∧ f.slate = .holding ∧ f.holdTime ≠ x.holdTime then (.holding, timer)
      else (f.slate, f.slateTimer)
    let checker : CheckerState × Nat × Nat × Nat :=
      match x.checkerOn, f.checker with
      | true, .off => (.hunt, 0, 0, 0)
      | false, .off => (.off, f.runCount, f.blockPos, f.blockErrors)
      | false, _ => (.off, 0, 0, 0)
      | true, _ => if unsynced then (.hunt, 0, 0, 0) else (f.checker, f.runCount, f.blockPos, f.blockErrors)
    (x = { criterion := f.criterion, slateMode := f.slateMode, holdTime := f.holdTime, fillColour := f.fillColour
           loop := f.loop, checkerOn := f.checker != .off, counterKind := f.counterKind, snapshotMode := f.snapshotMode } →
      exec .applySetInput s = .next (s.afterTaking l)) ∧
    ∃ t, exec .applySetInput s = .next t ∧
      t.fronts.get i =
        { f with
          criterion := x.criterion, slateMode := x.slateMode, holdTime := x.holdTime, fillColour := x.fillColour
          loop := x.loop, counterKind := x.counterKind, snapshotMode := x.snapshotMode
          slate := slate.1, slateTimer := slate.2
          checker := checker.1, runCount := checker.2.1, blockPos := checker.2.2.1, blockErrors := checker.2.2.2
          count := if f.counterKind = x.counterKind then f.count else 0
          countOver := if f.counterKind = x.counterKind then f.countOver else false
          frame := if moved then none else f.frame
          prevStart := if moved then none else f.prevStart
          fifo := if moved then [] else f.fifo
          audioPresent := if moved then false else f.audioPresent
          monitor := if moved then .lost else f.monitor
          candidate := if lost then none else f.candidate
          acqCount := if lost then 0 else f.acqCount
          missCount := if lost then 0 else f.missCount
          acqTimer := if lost then none else f.acqTimer
          missLeft := if lost then none else f.missLeft } ∧
      t.rings.get i =
        (match (if moved then f.frame.bind (·.slot) else none) with
          | some n => { s.rings.get i with slots := (s.rings.get i).slots.set n .free }
          | none => s.rings.get i) ∧
      (∀ k,
        let before := ((s.afterTaking l).link k).events
        let checked := if unsynced then before.latch .checkSync (some i.val) else before
        t.link k =
          { (s.afterTaking l).link k with
            events := if lost then checked.latch .inputState (some i.val) else checked }) ∧
      (∀ j, j ≠ i → t.fronts.get j = s.fronts.get j ∧ t.rings.get j = s.rings.get j) ∧
      t = { s.afterTaking l with fronts := t.fronts, rings := t.rings, linkA := t.linkA, linkB := t.linkB }

/-- SET_ZONE replaces its zone's record, clears the clip state, and writes the shared detector settings; the delay line and the detector's state stand. -/
def Obligations.SetZoneReplacesTheRecord : Prop :=
  ∀ (s : State) (l : Link) (z : ZoneIx) (r : ZoneRecord) (d : DetectorSettings), s.chosen = some (l, .setZone z r d) →
    exec .applySetZone s =
      .next { s.afterTaking l with
        zones := s.zones.set z { s.zones.get z with record := r, curMark := false, prevMark := false, clipCount := 0 }
        detector := { s.detector with settings := d } }

/-- SNAPSHOT_COUNTERS snapshots the inputs of its set that are in MANUAL mode and leaves the others; COUNTER_OVERFLOW is raised on both links for those whose copied mark is set, and no other event. -/
def Obligations.SnapshotCountersTakesManualInputs : Prop :=
  ∀ (s : State) (l : Link) (inputs : BitVec 12), s.chosen = some (l, .snapshotCounters inputs) →
    let taken := fun i : InputIx => inputs.getLsbD i.val && (s.fronts.get i).snapshotMode == .manual
    let marked := fun i : InputIx => taken i && (s.fronts.get i).countOver
    ∃ t, exec .applySnapshotCounters s = .next t ∧
      t = { s.afterTaking l with fronts := t.fronts, linkA := t.linkA, linkB := t.linkB } ∧
      (∀ i, t.fronts.get i =
        if taken i then
          { s.fronts.get i with
            snap := (s.fronts.get i).count, snapOver := (s.fronts.get i).countOver, count := 0, countOver := false }
        else s.fronts.get i) ∧
      ∀ k,
        t.link k = { (s.afterTaking l).link k with events := (t.link k).events } ∧
        ((∀ i, marked i = false) → t.link k = (s.afterTaking l).link k) ∧
        (t.link k).events =
          { (s.link k).events with latches := (t.link k).events.latches, sets := (t.link k).events.sets } ∧
        (∀ j, (t.link k).events.latches.get j =
          ((s.link k).events.latches.get j || (decide (j = 3) && (List.finRange 12).any marked))) ∧
        (∀ j, j ≠ 3 → (t.link k).events.sets.get j = (s.link k).events.sets.get j) ∧
        ∀ i : InputIx, ((t.link k).events.sets.get 3).getLsbD i.val =
          (((s.link k).events.sets.get 3).getLsbD i.val || marked i)

/-- An answer event composes the RESULT, removes the barrier, and places the RESULT in the reply queue, or leaves it in the slot while the queue is full. -/
def Obligations.AnswerPlacesTheResult : Prop :=
  ∀ (s : State) (l : Link) (tag : Byte) (q : Query), (s.link l).query = .waiting tag q → (s.link l).barrier = some 0 →
    ((s.link l).replies.length < 4 →
      exec (.answerEvent l) s =
        .next (s.setLink l
          { s.link l with
            query := .empty, barrier := none
            replies := (s.link l).replies ++ [[0x82, tag, q.kind.code] ++ s.resultContent l q]
            txLeft := (s.link l).txLeft + ((s.resultContent l q).length + 6) * charUnits (s.link l).rate })) ∧
    (4 ≤ (s.link l).replies.length →
      exec (.answerEvent l) s =
        .next (s.setLink l
          { s.link l with query := .answered ([0x82, tag, q.kind.code] ++ s.resultContent l q), barrier := none }))

/-- The bodies of the frames the part sends, field by field as Tables 11-2 and 11-5 to 11-11 lay them out, and their lengths; the codes of Table 11-4 that the fields hold, and the codes of the request kinds of Table 11-1. -/
def Obligations.ReplyBodiesHaveTheirLengths : Prop :=
  ([ScreenClass.feature, .ambient, .economy].map (·.code) = [0, 1, 2] ∧
    [Rate.hz50, .hz59_94, .hz60].map (·.code) = [0, 1, 2] ∧
    [Pattern.none, .bars, .solid, .idCard, .ramp].map (·.code) = [0, 1, 2, 3, 4] ∧
    [Criterion.quick, .steady].map (·.code) = [0, 1] ∧ [SlateMode.fill, .hold].map (·.code) = [0, 1] ∧
    [CounterKind.lineErrors, .invalidFrames, .drops, .checkErrors].map (·.code) = [0, 1, 2, 3] ∧
    [SnapshotMode.auto, .manual].map (·.code) = [0, 1] ∧ [ZoneMode.off, .follow, .mix].map (·.code) = [0, 1, 2] ∧
    [NakReason.unknownKind, .badLength, .badIndex, .badRange, .badValue, .duplicateSource, .queueFull, .queryBusy,
      .notSenior].map (·.code) = [1, 2, 3, 4, 5, 6, 7, 8, 9] ∧
    [RefusalReason.pinned, .held].map (·.code) = [0x10, 0x11] ∧
    [Service.off, .offscreen, .exact, .scaled, .waiting, .granted, .economy].map (·.code) = [0, 1, 2, 3, 4, 5, 6] ∧
    [RunState.active, .standby].map (·.code) = [0, 1] ∧
    [MonitorState.lost, .acquiring, .present].map (·.code) = [0, 1, 2] ∧
    [SlateState.idle, .holding, .fill].map (·.code) = [0, 1, 2] ∧
    [CheckerState.off, .hunt, .sync].map (·.code) = [0, 1, 2] ∧
    [SlotState.free, .filling, .ready].map (·.code) = [0, 1, 2] ∧
    (∀ (len : Nat) (body : List Byte) (sum : Byte),
      [Phase.hunt, .length, .body len body sum, .check len body sum, .complete body].map (·.code) = [0, 1, 2, 3, 4]) ∧
    [DetectorState.idle, .active].map (·.code) = [0, 1] ∧
    [none, some Link.a, some Link.b].map ownerCode = [0, 1, 2]) ∧
  ([EditKind.setMain, .setInset, .clearInset, .clearScreen, .swap, .setScreen, .group, .pin, .unpin, .setInput, .setZone,
      .snapshotCounters].map (·.code) =
      [0x10, 0x11, 0x12, 0x13, 0x14, 0x15, 0x16, 0x17, 0x18, 0x19, 0x1A, 0x1B] ∧
    [QueryKind.readScreen, .readWindow, .readInput, .readZone, .readPool, .readCounters, .readLink].map (·.code) =
      [0x20, 0x21, 0x22, 0x23, 0x24, 0x25, 0x26] ∧
    (∀ k : EditKind, (RequestKind.edit k).code = k.code) ∧ (∀ k : QueryKind, (RequestKind.query k).code = k.code) ∧
    [RequestKind.identify, .takeEvents, .setEvents, .wallReset, .linkReset].map (·.code) =
      [0x30, 0x31, 0x32, 0x33, 0x34]) ∧
  ∀ (s : State) (l : Link) (tag : Byte),
    ((∀ scr, (s.resultBody l tag (.screen scr)).length = 113) ∧ (∀ w, (s.resultBody l tag (.window w)).length = 79) ∧
      (∀ i, (s.resultBody l tag (.input i)).length = 87) ∧
      (∀ z, (s.resultBody l tag (.zone z)).length = 30 + 3 * (s.zones.get z).record.contributions.length) ∧
      (s.resultBody l tag .pool).length =
        46 + s.pool.waiting.length + s.pool.feature.length + s.pool.ambient.length ∧
      (s.resultBody l tag .counters).length = 99 ∧ (s.resultBody l tag .link).length = 17 ∧
      ((s.link l).eventsBody tag).length = 25 ∧ (s.identityBody l tag).length = 11) ∧
    (let e := (s.link l).events;
      let set := fun k : Fin 12 => (2, (e.sets.get k).toNat)
      (s.link l).eventsBody tag =
        layout ([(1, 0x83), (1, tag.toNat),
          (2, ((List.finRange 12).map fun k => if e.latches.get k = true then 2 ^ k.val else 0).sum),
          set 0, set 1, set 2, set 3, set 4, set 6, set 7, set 8, (1, (e.sets.get 10).toNat)] ++
          (match (s.link l).record with
            | some r => [(1, r.kind.toNat), (1, r.screen.val + 1), (1, match r.reason with | .pinned => 0x10 | .held => 0x11)]
            | none => [(1, 0), (1, 0), (1, 0)]) ++ [(1, (s.link l).refusals)])) ∧
    (∀ scr,
      let r := s.staged.get scr
      let c := s.comps.get scr
      s.resultBody l tag (.screen scr) =
        layout ([(1, 0x82), (1, tag.toNat), (1, 0x20), (1, scr.val + 1), (1, r.settings.cls.code.toNat),
          (1, r.settings.rate.code.toNat), (1, bit r.settings.standby), (1, r.settings.pattern.code.toNat)] ++
          colourOf r.settings.background ++ [(1, number r.main.source)] ++ r.main.crop.fields ++
          (r.insets.get 0).fields ++ (r.insets.get 1).fields ++ (r.insets.get 2).fields ++
          [(1, c.run.code.toNat), (1, bit (decide (c.live ≠ r))), (1, (c.plans.get 0).service.code.toNat),
            (1, (c.plans.get 1).service.code.toNat), (1, (c.plans.get 2).service.code.toNat),
            (1, (c.plans.get 3).service.code.toNat), (1, (ownerCode (s.pins.get scr).owner).toNat),
            (2, (s.pins.get scr).lapse), (1, (ownerCode (s.holds.get scr).holder).toNat), (2, (s.holds.get scr).ms)])) ∧
    (∀ (scr : ScreenIx) (k : WindowIx),
      let c := s.comps.get scr
      s.resultBody l tag (.window (wallWindow scr k)) =
        layout ([(1, 0x82), (1, tag.toNat), (1, 0x21), (1, 4 * scr.val + k.val + 1), (1, scr.val + 1), (1, k.val),
          (1, c.run.code.toNat)] ++
          (if h : 1 ≤ k.val then (c.live.insets.get ⟨k.val - 1, by omega⟩).fields
          else
            [(1, number c.live.main.source)] ++ c.live.main.crop.fields ++
              [(2, 0), (2, 0), (2, 1920), (2, 1080), (2, 256), (1, 0)] ++ colourOf c.live.settings.background) ++
          (c.plans.get k).fields)) ∧
    (∀ i,
      let f := s.fronts.get i
      let r := s.rings.get i
      s.resultBody l tag (.input i) =
        layout ([(1, 0x82), (1, tag.toNat), (1, 0x22), (1, i.val + 1), (1, f.monitor.code.toNat),
          (1, f.criterion.code.toNat)] ++ formatFields f.candidate ++ [(1, f.acqCount)] ++ formatFields f.latched ++
          [(1, f.missCount), (1, f.slateMode.code.toNat), (1, f.holdTime)] ++ colourOf f.fillColour ++
          [(1, f.slate.code.toNat), (2, match f.slateTimer with | .running ms => ms | _ => 0),
            (1, bit (f.slateTimer == .indefinite)), (1, number f.loop), (1, f.checker.code.toNat), (1, f.runCount),
            (1, f.blockPos), (1, f.blockErrors), (1, f.counterKind.code.toNat), (1, f.snapshotMode.code.toNat),
            (2, f.count), (1, bit f.countOver), (2, f.snap), (1, bit f.snapOver), (1, bit f.audioPresent),
            (2, f.fifo.length), (2, f.captureCount)] ++
          (r.slots.get 0).fields ++ (r.slots.get 1).fields ++ (r.slots.get 2).fields ++ (r.slots.get 3).fields ++
          [(1, number r.newest)])) ∧
    (∀ z,
      let r := (s.zones.get z).record
      let d := s.detector
      s.resultBody l tag (.zone z) =
        layout ([(1, 0x82), (1, tag.toNat), (1, 0x23), (1, z.val + 1), (1, r.mode.code.toNat), (1, r.follow.val + 1),
          (1, r.contributions.length)] ++
          (r.contributions.flatMap fun c => [(1, sourceNumber c.source), (2, c.gain)]) ++
          [(2, r.level), (1, r.delay), (1, bit r.duckEnable), (2, r.duckGain), (2, r.announceGain),
            (1, if r.mode = .follow then number (s.comps.get r.follow).live.main.source else 0),
            (1, bit (r.duckEnable && d.state == .active)), (1, bit (s.zones.get z).curMark),
            (1, bit (s.zones.get z).prevMark), (2, (s.zones.get z).clipCount), (1, d.state.code.toNat), (1, d.run),
            (2, d.pos), (3, d.settings.threshold), (1, d.settings.nd), (1, d.settings.nc)])) ∧
    s.resultBody l tag .pool =
      layout ([(1, 0x82), (1, tag.toNat), (1, 0x24)] ++
        ((List.finRange 20).flatMap fun n => match s.pool.scalers.get n with
          | .free => [(1, 0), (1, 0)]
          | .granted w => [(1, 1), (1, w.val + 1)]
          | .active w => [(1, 2), (1, w.val + 1)]) ++
        windowsFields s.pool.waiting ++ windowsFields s.pool.feature ++ windowsFields s.pool.ambient) ∧
    s.resultBody l tag .counters =
      layout ([(1, 0x82), (1, tag.toNat), (1, 0x25)] ++
        (List.finRange 12).flatMap fun i =>
          [(1, (s.fronts.get i).counterKind.code.toNat), (1, (s.fronts.get i).snapshotMode.code.toNat),
            (2, (s.fronts.get i).snap), (1, bit (s.fronts.get i).snapOver), (2, (s.fronts.get i).count),
            (1, bit (s.fronts.get i).countOver)]) ∧
    (let x := s.link l;
      s.resultBody l tag .link =
        layout [(1, 0x82), (1, tag.toNat), (1, 0x26), (1, match l with | .a => 1 | .b => 2),
          (1, match s.rank with | .equal => 0 | .aSenior => 1 | .bSenior => 2),
          (1, match x.rate with | .baud115200 => 0 | .baud460800 => 1), (1, x.errors.badCheck), (1, x.errors.length),
          (1, x.errors.timeout), (1, x.errors.overrun), (1, x.errors.framing), (1, x.errors.breaks),
          (1, fifoLevel x.fifo), (1, bit (x.fifo.any (· == .cut))), (1, x.parser.phase.code.toNat),
          (1, x.edits.length), (1, x.replies.length)])

/-- A one-second tick, which comes at the next whole second of the reference clock: it snapshots every input in AUTO mode, with COUNTER_OVERFLOW for those whose copied mark is set, and lowers every running pin lapse timer.
A timer that reaches 0 releases its pin in that event, with PIN_LAPSED for the screen on the link that owned it.
The time to the tick passes first (log 2), tick and lapses are one event (log 9), and that the ticks fall at the multiples of 27,000,000 of the clock is the model's choice of their phase (log 1). -/
def Obligations.OneSecondTickSnapshotsAndLowersPins : Prop :=
  ∀ s : State, ∃ t, exec .oneSecondTick s = .next t ∧ t.clock = (s.clock / 27000000 + 1) * 27000000 ∧
    (∀ i, (s.fronts.get i).snapshotMode = .auto →
      (t.fronts.get i).snap = (s.fronts.get i).count ∧ (t.fronts.get i).snapOver = (s.fronts.get i).countOver ∧
        (t.fronts.get i).count = 0 ∧ (t.fronts.get i).countOver = false) ∧
    (∀ i, (s.fronts.get i).snapshotMode = .manual →
      (t.fronts.get i).snap = (s.fronts.get i).snap ∧ (t.fronts.get i).count = (s.fronts.get i).count) ∧
    (∀ scr, t.pins.get scr =
      if (s.pins.get scr).lapse = 0 then s.pins.get scr
      else if (s.pins.get scr).lapse = 1 then { owner := none, lapse := 0 }
      else { owner := (s.pins.get scr).owner, lapse := (s.pins.get scr).lapse - 1 }) ∧
    (∀ l, (∀ i : InputIx, ((t.link l).events.sets.get 3).getLsbD i.val =
        (((s.link l).events.sets.get 3).getLsbD i.val ||
          ((s.fronts.get i).snapshotMode == .auto && (s.fronts.get i).countOver))) ∧
      (∀ scr : ScreenIx, ((t.link l).events.sets.get 7).getLsbD scr.val =
        (((s.link l).events.sets.get 7).getLsbD scr.val ||
          ((s.pins.get scr).lapse == 1 && (s.pins.get scr).owner == some l))) ∧
      (t.link l).events.latches.get 3 =
        ((s.link l).events.latches.get 3 ||
          (List.finRange 12).any fun i => (s.fronts.get i).snapshotMode == .auto && (s.fronts.get i).countOver) ∧
      (t.link l).events.latches.get 7 =
        ((s.link l).events.latches.get 7 ||
          (List.finRange 16).any fun scr => (s.pins.get scr).lapse == 1 && (s.pins.get scr).owner == some l) ∧
      ∀ j, j ≠ 3 → j ≠ 7 → (t.link l).events.latches.get j = (s.link l).events.latches.get j) ∧
    t.staged = s.staged ∧ t.pool = s.pool ∧ t.rings = s.rings ∧ t.zones = s.zones ∧ t.detector = s.detector ∧
    ∀ l, (t.link l).edits = (s.link l).edits ∧ (t.link l).replies = (s.link l).replies

/-- With an empty queue the first event that is due in the part's own order is taken, and with none due one reference period passes (the model's choice, log 1, log 6).
What the passing of time does: the clock and every timer count, in reference periods or in the millisecond ticks that lie in the time, and a timer that comes to 0 stays there until its event is taken (log 2); a time without a one-second tick does no more.
A pin whose lapse timer stands at m lapses at the m-th one-second tick from now and at no moment before: the pin is released there, with PIN_LAPSED for the screen on the link that owned it.
A screen without a pin, and a pin without a lapse, do not lapse.
A hold expires at the millisecond tick at which its timer has run out: it is released, with HOLD_EXPIRED on its holder; nothing else changes but by the time that passes first (log 2).
The moments of the one-second and millisecond ticks, at the multiples of 27,000,000 and of 27,000 of the clock, are the model's choice of their phase (log 1). -/
def Obligations.LapseAndExpiryRelease : Prop :=
  (∀ s : State, s.pending = [] →
    let order : List Instr :=
      (List.finRange 16).map .holdExpired ++ (List.finRange 12).map .slateHoldExpiry ++
        (List.finRange 12).map .acquisitionTimerExpiry ++ (List.finRange 12).map .missIntervalExpiry ++
        [.transmissionEnd .a, .transmissionEnd .b, .interByteTimeout .a, .interByteTimeout .b, .blockJudgement] ++
        (List.finRange 16).map .boundary
    (∀ before e after, order = before ++ e :: after → s.due e = true → (∀ c ∈ before, s.due c = false) →
      step s = exec e s) ∧
    ((∀ c ∈ order, s.due c = false) → step s = .next (s.elapse 1))) ∧
  (∀ (s : State) (scr : ScreenIx) (i : InputIx) (l : Link),
    let x := s.link l
    (s.due (.holdExpired scr) = true ↔ (s.holds.get scr).holder ≠ none ∧ (s.holds.get scr).ms = 0) ∧
    (s.due (.slateHoldExpiry i) = true ↔ (s.fronts.get i).slateTimer = .running 0) ∧
    (s.due (.acquisitionTimerExpiry i) = true ↔ (s.fronts.get i).acqTimer = some 0) ∧
    (s.due (.missIntervalExpiry i) = true ↔ (s.fronts.get i).missLeft = some 0) ∧
    (s.due (.transmissionEnd l) = true ↔ ∃ body rest, x.replies = body :: rest ∧
      x.txLeft ≤ (rest.map fun b => (b.length + 3) * charUnits x.rate).sum) ∧
    (s.due (.interByteTimeout l) = true ↔
      x.parser.phase.inFrame = true ∧ ∃ last, x.lastArrival = some last ∧ last + gapLimit x.rate ≤ s.clock) ∧
    (s.due .blockJudgement = true ↔ s.detector.due = true) ∧
    (s.due (.boundary scr) = true ↔
      (s.comps.get scr).timing = .starting 0 ∨ ∃ period leadIn, (s.comps.get scr).timing = .running period 0 leadIn)) ∧
  (∀ (s : State) (n : Nat),
    let t := s.elapse n
    let ms := (s.clock + n) / 27000 - s.clock / 27000
    t = { s with clock := s.clock + n, comps := t.comps, fronts := t.fronts, pins := t.pins, holds := t.holds
                 linkA := t.linkA, linkB := t.linkB } ∧
    (∀ scr, t.holds.get scr = { s.holds.get scr with ms := (s.holds.get scr).ms - ms }) ∧
    (∀ scr, t.comps.get scr =
      { s.comps.get scr with
        timing := match (s.comps.get scr).timing with
          | .starting left => .starting (left - n)
          | .running period left leadIn => .running period (left - n) leadIn
          | .stopped => .stopped }) ∧
    (∀ l, t.link l = { s.link l with txLeft := (s.link l).txLeft - 16 * n, events := (t.link l).events }) ∧
    (∀ i,
      let f := s.fronts.get i
      let g := t.fronts.get i
      g =
        { f with
          acqTimer := f.acqTimer.map (· - ms)
          missLeft := f.missLeft.map (· - n)
          slateTimer := match f.slateTimer with
            | .running left => .running (left - ms)
            | .indefinite => .indefinite
            | .stopped => .stopped
          count := g.count, countOver := g.countOver, snap := g.snap, snapOver := g.snapOver } ∧
      ((s.clock + n) / 27000000 = s.clock / 27000000 →
        g.count = f.count ∧ g.countOver = f.countOver ∧ g.snap = f.snap ∧ g.snapOver = f.snapOver)) ∧
    ((s.clock + n) / 27000000 = s.clock / 27000000 →
      t.pins = s.pins ∧ ∀ l, (t.link l).events = (s.link l).events)) ∧
  ∀ (s : State) (scr : ScreenIx) (l : Link),
    ((s.pins.get scr).owner = none ∨ (s.pins.get scr).lapse = 0 → exec (.pinLapsed scr) s = .next s) ∧
    (∀ m, (s.pins.get scr).owner = some l → (s.pins.get scr).lapse = m + 1 →
      let n := (s.clock / 27000000 + 1 + m) * 27000000 - s.clock
      let u := s.elapse n
      exec (.pinLapsed scr) s = .next u ∧ u.clock = s.clock + n ∧ u.pins.get scr = { owner := none, lapse := 0 } ∧
        (u.link l).events.latches.get 7 = true ∧ ((u.link l).events.sets.get 7).getLsbD scr.val = true ∧
        ∀ k, k < n → ((s.elapse k).pins.get scr).owner = some l) ∧
    ((s.holds.get scr).holder = some l →
      let ms := (s.holds.get scr).ms
      let u := s.elapse (if ms = 0 then 0 else (ms - 1) * 27000 + (27000 - s.clock % 27000))
      (u.holds.get scr).ms = 0 ∧
      exec (.holdExpired scr) s =
        .next ({ u with holds := u.holds.set scr { holder := none, ms := 0 } }.setLink l
          { u.link l with events := (u.link l).events.latch .holdExpired (some scr.val) }))

/-! ## The lines -/

/-- One character on a line, with nothing waiting before it.
In HUNT a sync begins a frame and another byte is discarded; in LENGTH a length of 2 to 128 goes on to BODY and another is counted; in BODY it is stored, and the last byte of the body goes on to CHECK.
In CHECK a good check completes the frame, which is taken or, behind a full reply queue, held; a bad one is counted and the frame's bytes after its sync are taken again, those before the next sync among them being discarded.
A byte more than 20 character times after the one before it abandons the frame in assembly, is counted, and is taken in HUNT.
A zero stop bit counts a framing error and cuts the frame in assembly; the moment from which the line has been at zero, the start bit's falling edge where no data bit is one and else the end of the last one, is the model's in whole reference periods (log 20), and so is that its character counts as the last arrival (log 26).
Behind a held frame a byte joins the FIFO's tail with its late mark, and a byte that finds 32 there is lost with a cut, as the byte of a zero stop bit is; a cut joins one at the tail. -/
def Obligations.OneCharacterArrives : Prop :=
  ∀ (s : State) (l : Link) (wait : Nat) (b : Byte),
    let u := s.elapse wait
    let x := s.link l
    let up := fun n : Nat => if n < 255 then n + 1 else 255
    let heard := { u.link l with lastArrival := some (s.clock + wait), zero := .none }
    let halfBits := if b = 0 then 19 else 15 - 2 * b.toNat.log2
    let edge := s.clock + wait -
      (match x.rate with | .baud115200 => halfBits * 1875 / 16 | .baud460800 => halfBits * 1875 / 64)
    let late : Prop := ∃ last, x.lastArrival = some last ∧ last + gapLimit x.rate < s.clock + wait
    let free : Prop := x.parser.rescan = [] ∧ x.fifo = []
    (x.quiet = true →
      exec (.arrival l wait b true) s =
        .next (u.setLink l { heard with parser := { phase := if b = 0x7E then .length else .hunt, rescan := [] } })) ∧
    (x.quiet = true →
      exec (.arrival l wait b false) s =
        .next (u.setLink l { heard with zero := .framed edge, errors := { x.errors with framing := up x.errors.framing } })) ∧
    (∀ body, x.parser.phase = .complete body → 4 ≤ x.replies.length →
      let cut := if x.fifo.getLast? = some .cut then x.fifo else x.fifo ++ [.cut]
      (∀ mark : Bool, (mark = true ↔ late) → fifoLevel x.fifo < 32 →
        exec (.arrival l wait b true) s = .next (u.setLink l { heard with fifo := x.fifo ++ [.byte b mark] })) ∧
      (fifoLevel x.fifo = 32 →
        exec (.arrival l wait b true) s =
          .next (u.setLink l
            { heard with fifo := cut, errors := { x.errors with overrun := up x.errors.overrun } })) ∧
      exec (.arrival l wait b false) s =
        .next (u.setLink l
          { heard with
            zero := .framed edge, fifo := cut, errors := { x.errors with framing := up x.errors.framing } })) ∧
    (free → ¬ late → x.parser.phase = .length →
      exec (.arrival l wait b true) s =
        .next (u.setLink l
          (if 2 ≤ b.toNat ∧ b.toNat ≤ 128 then { heard with parser := { phase := .body b.toNat [] b, rescan := [] } }
          else
            { heard with
              parser := { phase := .hunt, rescan := [] }, errors := { x.errors with length := up x.errors.length } }))) ∧
    (∀ len got sum, free → ¬ late → x.parser.phase = .body len got sum →
      exec (.arrival l wait b true) s =
        .next (u.setLink l
          { heard with
            parser :=
              { phase :=
                  if got.length + 1 < len then .body len (got ++ [b]) (sum + b) else .check len (got ++ [b]) (sum + b)
                rescan := [] } })) ∧
    (∀ len got sum, free → ¬ late → x.parser.phase = .check len got sum → sum + b = 0 →
      (∀ kind tag f, got = kind :: tag :: f → x.replies.length < 4 → (∀ r, x.query ≠ .answered r) →
        exec (.arrival l wait b true) s =
          .next ((u.setLink l { heard with parser := { phase := .hunt, rescan := [] } }).takeFrame l kind tag f)) ∧
      (4 ≤ x.replies.length →
        exec (.arrival l wait b true) s =
          .next (u.setLink l { heard with parser := { phase := .complete got, rescan := [] } }))) ∧
    (∀ len got sum, free → ¬ late → x.parser.phase = .check len got sum → sum + b ≠ 0 →
      let again := BitVec.ofNat 8 len :: (got ++ [b])
      let left := fun (phase : Phase) (rescan : List Byte) =>
        u.setLink l
          { heard with
            parser := { phase := phase, rescan := rescan }, errors := { x.errors with badCheck := up x.errors.badCheck } }
      (0x7E ∉ again → exec (.arrival l wait b true) s = .next (left .hunt [])) ∧
      ∀ before after, again = before ++ 0x7E :: after → 0x7E ∉ before →
        exec (.arrival l wait b true) s = .next ((left .length after).parse l)) ∧
    (free → late → x.parser.phase.inFrame = true →
      exec (.arrival l wait b true) s =
        .next (u.setLink l
          { heard with
            parser := { phase := if b = 0x7E then .length else .hunt, rescan := [] }
            errors := { x.errors with timeout := up x.errors.timeout } })) ∧
    (free → x.parser.phase.inFrame = true →
      exec (.arrival l wait b false) s =
        .next (u.setLink l
          { heard with
            zero := .framed edge, parser := { phase := .hunt, rescan := [] }
            errors := { x.errors with framing := up x.errors.framing } }))

/-- The bytes of a frame's envelope, arriving one after another on a link with nothing waiting, do exactly what the frame's command does, whether its kind byte names a request or none: the parser drops no bit of a frame. -/
def Obligations.EnvelopeBytesAreTheRequest : Prop :=
  ∀ (l : Link) (tag : Byte) (f : List Byte) (s t : State),
    (s.link l).Lawful → (s.link l).quiet = true → f.length ≤ 126 →
    (∀ k : RequestKind, exec (requestCommand k l tag f) s = .next t →
      execAll (arrivals l (envelope (k.code :: tag :: f))) s = some t) ∧
    ∀ kind : Byte, isRequestCode kind = false → exec (.unknownKind l kind tag f) s = .next t →
      execAll (arrivals l (envelope (kind :: tag :: f))) s = some t

/-- After every character and every end of a transmission the parser has taken all that it can take. -/
def Obligations.ParserComesToRest : Prop :=
  ∀ (s t : State) (l : Link),
    (∀ wait b stop, exec (.arrival l wait b stop) s = .next t → t.parseOnce l = none) ∧
    ((s.link l).replies ≠ [] → exec (.transmissionEnd l) s = .next t → t.parseOnce l = none)

/-- A frame in assembly with no byte left to take is abandoned when its gap is over, with one timeout counted; the rest of the gap passes first (log 2). -/
def Obligations.InterByteTimeoutAbandonsTheFrame : Prop :=
  ∀ (s : State) (l : Link) (last : Nat), (s.link l).parser.phase.inFrame = true → (s.link l).parser.rescan = [] →
    (s.link l).fifo = [] → (s.link l).lastArrival = some last →
    let u := s.elapse (last + gapLimit (s.link l).rate - s.clock)
    exec (.interByteTimeout l) s =
      .next (u.setLink l
        { u.link l with
          parser := { phase := .hunt, rescan := [] }
          errors := { (s.link l).errors with
            timeout := if (s.link l).errors.timeout < 255 then (s.link l).errors.timeout + 1 else 255 } })

/-- A break is recognised 675,000 reference periods after the falling edge that began its zero: it counts itself and resets its link without RESET_DONE.
A zero whose character has come with its framing error is the one held (its edge 9.5 bit times before, or the end of the character's last one, log 20); a zero that is over, or whose break is recognised already, gives no second break, and a zero that begins now gives its own, with one framing error on the way.
The rest of a character being sent is sent first (log 19). -/
def Obligations.BreakResetsTheLink : Prop :=
  ∀ (s : State) (l : Link),
    let x := s.link l
    let up := fun n : Nat => if n < 255 then n + 1 else 255
    let toStop := match x.rate with | .baud115200 => 2226 | .baud460800 => 556
    let broken := fun u : State =>
      { u.setLink l
          { LinkState.powerOn x.rate with
            zero := .broken
            txLeft := if (u.link l).txLeft = 0 then 0 else ((u.link l).txLeft - 1) % charUnits x.rate + 1
            errors := { (u.link l).errors with breaks := up x.errors.breaks } } with
        holds := u.holds.map fun h => if h.holder = some l then { holder := none, ms := 0 } else h }
    (∀ edge, x.zero = .framed edge → s.clock ≤ edge + 675000 →
      exec (.lineBreak l) s = .next (broken (s.elapse (edge + 675000 - s.clock)))) ∧
    ((∀ edge, x.zero = .framed edge → edge + 675000 < s.clock) →
      ∃ u, exec (.arrival l toStop 0 false) s = .next u ∧
        exec (.lineBreak l) s = .next (broken (u.elapse (675000 - toStop))) ∧ u.clock = s.clock + toStop ∧
        (u.link l).zero = .framed s.clock ∧
        (x.quiet = true → (u.link l).errors = { x.errors with framing := up x.errors.framing }))

/-- At the end of a transmission the frame leaves the queue and the next begins; a RESULT waiting in the query slot takes the place, and else a frame held in COMPLETE is taken.
Whatever waits in the FIFO is then taken by the parser.
What is left of the head frame is what is left of all, less (n + 3) characters for each frame behind it; its end is taken at the first whole reference period (the model's choice, log 18), and the frames behind it lose no time by that; the time to it passes first (log 2). -/
def Obligations.TransmissionEndSendsTheNextFrame : Prop :=
  ∀ (s : State) (l : Link) (body : List Byte) (rest : List (List Byte)), (s.link l).replies = body :: rest →
    let char := charUnits (s.link l).rate
    let behind := (rest.map fun b => (b.length + 3) * char).sum
    let u := s.elapse (((s.link l).txLeft - behind + 15) / 16)
    let sent :=
      match (s.link l).query with
        | .answered r =>
          { u.link l with
            replies := rest ++ [r], txLeft := (u.link l).txLeft + (r.length + 3) * char, query := .empty }
        | _ => { u.link l with replies := rest }
    exec (.transmissionEnd l) s = .next ((u.setLink l sent).parse l) ∧
    (u.link l).txLeft = (s.link l).txLeft - 16 * (((s.link l).txLeft - behind + 15) / 16) ∧
    ((s.link l).parser.rescan = [] → (s.link l).fifo = [] →
      (∀ kind tag f, (s.link l).parser.phase = .complete (kind :: tag :: f) → (∀ r, (s.link l).query ≠ .answered r) →
        rest.length = 3 →
        exec (.transmissionEnd l) s =
          .next ((u.setLink l { u.link l with replies := rest, parser := { phase := .hunt, rescan := [] } }).takeFrame
            l kind tag f)) ∧
      ((s.link l).parser.phase = .hunt → (∀ r, (s.link l).query ≠ .answered r) →
        exec (.transmissionEnd l) s = .next (u.setLink l { u.link l with replies := rest })) ∧
      ∀ r, (s.link l).query = .answered r →
        ((s.link l).parser.phase = .hunt ∨ ∃ held, (s.link l).parser.phase = .complete held ∧ rest.length = 3) →
        exec (.transmissionEnd l) s =
          .next (u.setLink l
            { u.link l with
              replies := rest ++ [r], txLeft := (u.link l).txLeft + (r.length + 3) * char, query := .empty }))

/-! ## Inputs and rings -/

/-- A frame start on an input, whatever its loop selection; a FRAME_START of a connector that the input takes its frames from is one, after its time.
It truncates a frame in progress, which completes as invalid first: it is counted, its slot is freed, and nothing else changes. In PRESENT the capture frame count rises and the lowest-numbered FREE slot is filled, or the frame is dropped and counted; else no slot is asked for. -/
def Obligations.FrameStartAsksForASlot : Prop :=
  ∀ (s : State) (i : InputIx),
    let f := s.fronts.get i
    let count := fun kind : CounterKind =>
      if f.counterKind = kind then (if f.count < 65535 then f.count + 1 else 65535) else f.count
    let countOver := fun kind : CounterKind => f.countOver || (f.counterKind == kind && decide (65535 ≤ f.count))
    (∀ wait, f.loop = none → exec (.frameStart i wait) s = .next ((s.elapse wait).frameStart i)) ∧
    (∀ x, f.frame = some x →
      let v := s.completeInvalid i
      s.frameStart i = v.frameStart i ∧ v = { s with fronts := v.fronts, rings := v.rings } ∧
        v.fronts.get i =
          { f with frame := none, count := count .invalidFrames, countOver := countOver .invalidFrames } ∧
        (x.slot = none → v.rings = s.rings) ∧
        (∀ n, x.slot = some n →
          v.rings = s.rings.set i { s.rings.get i with slots := (s.rings.get i).slots.set n Slot.free }) ∧
        ∀ j, j ≠ i → v.fronts.get j = s.fronts.get j) ∧
    (f.frame = none →
      let t := s.frameStart i
      let seq := (f.captureCount + 1) % 65536
      let begun := fun (g : FrontEnd) (slot : Option SlotIx) =>
        { g with
          prevStart := some s.clock
          frame := some
            { start := s.clock, period := f.prevStart.map fun p => s.clock - p, firstWidth := none, lines := 0
              lineError := false, startedPresent := decide (f.monitor = .present), slot := slot } }
      t = { s with fronts := t.fronts, rings := t.rings } ∧ (∀ j, j ≠ i → t.fronts.get j = s.fronts.get j) ∧
      (f.monitor ≠ .present → t.fronts.get i = begun f none ∧ t.rings = s.rings) ∧
      (∀ n, f.monitor = .present → (s.rings.get i).slots.lowest (fun x => x.state == .free) = some n →
        t.fronts.get i = begun { f with captureCount := seq } (some n) ∧
        t.rings = s.rings.set i { s.rings.get i with
          slots := (s.rings.get i).slots.set n
            { state := .filling, seq := seq, width := 0, height := 0, readers := 0, lines := [] } }) ∧
      (f.monitor = .present → (∀ n, ((s.rings.get i).slots.get n).state ≠ .free) →
        t.fronts.get i =
          begun { f with captureCount := seq, count := count .drops, countOver := countOver .drops } none ∧
        t.rings = s.rings))

/-- A line or a frame end outside a frame is disregarded. An active line of a frame in progress is counted, held against the width of the frame's first line, written into the frame's slot, and judged by the checker at its row.
This holds whatever the loop selection; an ACTIVE_LINE and a FRAME_END of a connector that the input takes its frames from are such a line and such an end. -/
def Obligations.ActiveLineIsJudgedAndWritten : Prop :=
  ∀ (s : State) (i : InputIx) (pixels : List Colour),
    let f := s.fronts.get i
    (f.loop = none → exec (.activeLine i pixels) s = .next (s.activeLine i pixels) ∧
      ∀ audio, exec (.frameEnd i audio) s = .next (s.frameEnd i audio)) ∧
    (f.frame = none → s.activeLine i pixels = s ∧ ∀ audio, s.frameEnd i audio = s) ∧
    ∀ x, f.frame = some x →
    let first := x.firstWidth.getD pixels.length
    let counts : Bool := f.counterKind == .lineErrors && decide (pixels.length ≠ first)
    let t := s.activeLine i pixels
    let u := { s with rings := t.rings, fronts := s.fronts.set i { f with
      frame := some { x with
        firstWidth := some first, lines := x.lines + 1, lineError := x.lineError || decide (pixels.length ≠ first) }
      count := if counts then (if f.count < 65535 then f.count + 1 else 65535) else f.count
      countOver := f.countOver || (counts && decide (65535 ≤ f.count)) } }
    t = u.checkLine i (rampLine x.lines pixels) ∧ (x.slot = none → t.rings = s.rings) ∧
    ∀ n, x.slot = some n →
      t.rings = s.rings.set i { s.rings.get i with
        slots := (s.rings.get i).slots.set n
          { (s.rings.get i).slots.get n with lines := ((s.rings.get i).slots.get n).lines ++ [pixels] } }

/-- A looped input observes its screen's output and not its connector: a frame start in the event that begins a frame of the screen, 1080 rows of 1920 pixels of the output, and a frame end without audio.
A FRAME_START of its connector lets its time pass and does nothing more, and the connector's line is disregarded.
That a row arrives exactly as the screen puts it out, and that no command can damage it, is the model's choice (log 33).
Rows not yet taken when the screen's frame is over, and its end, are taken then, from the screen as that frame showed it (log 16); each looped input takes them by itself. -/
def Obligations.LoopedInputReceivesItsScreen : Prop :=
  (∀ (s : State) (i : InputIx) (scr : ScreenIx) (pixels : List Colour) (audio : Option (List Stereo)) (wait : Nat),
    (s.fronts.get i).loop = some scr →
    exec (.frameStart i wait) s = .next (s.elapse wait) ∧
    (∀ x, (s.fronts.get i).frame = some x →
      (x.lines < 1080 → exec (.activeLine i pixels) s = .next (s.activeLine i (s.outputLine scr x.lines)) ∧
        exec (.frameEnd i audio) s = .next s) ∧
      (1080 ≤ x.lines → exec (.activeLine i pixels) s = .next s ∧ exec (.frameEnd i audio) s = .next (s.frameEnd i none))) ∧
    ((s.fronts.get i).frame = none →
      exec (.activeLine i pixels) s = .next s ∧ exec (.frameEnd i audio) s = .next s)) ∧
  (∀ (s : State) (scr : ScreenIx) (r : Nat), (s.outputLine scr r).length = 1920 ∧
    ∀ c, c < 1920 → (s.outputLine scr r)[c]? = some ((s.pixel scr c r).getD ⟨0, 0, 0⟩)) ∧
  ∀ (s : State) (scr : ScreenIx),
    let begun := s.startLoopedFrames scr
    let ended := s.endLoopedFrames scr
    begun = { s with fronts := begun.fronts, rings := begun.rings } ∧
    (∀ l, ended.link l = { s.link l with events := (ended.link l).events }) ∧
    ended = { s with fronts := ended.fronts, rings := ended.rings, linkA := ended.linkA, linkB := ended.linkB } ∧
    ∀ i,
      ((s.fronts.get i).loop ≠ some scr →
        begun.fronts.get i = s.fronts.get i ∧ begun.rings.get i = s.rings.get i ∧
        ended.fronts.get i = s.fronts.get i ∧ ended.rings.get i = s.rings.get i) ∧
      ((s.fronts.get i).loop = some scr →
        begun.fronts.get i = (s.frameStart i).fronts.get i ∧ begun.rings.get i = (s.frameStart i).rings.get i ∧
        ((s.fronts.get i).frame = none →
          ended.fronts.get i = s.fronts.get i ∧ ended.rings.get i = s.rings.get i) ∧
        ∀ x, (s.fronts.get i).frame = some x →
          let rows := (List.range 1080).drop x.lines
          let t := (rows.foldl (fun t r => t.activeLine i (s.outputLine scr r)) s).frameEnd i none
          ended.fronts.get i = t.fronts.get i ∧ ended.rings.get i = t.rings.get i ∧ (ended.fronts.get i).frame = none)

/-- The path checker: a line matches when its pixel at each column c is (c + 4 r) mod 1024 in all three components; eight matching lines in a row take the checker from HUNT to SYNC; in SYNC each error is counted, the seventh of a block takes it back to HUNT, and a block begins anew after its 64th line.
CHECK_SYNC is raised at each of the two changes as the links' modes admit it.
Every active line of a frame in progress is judged so, at its row, whether it comes from a connector or a screen. -/
def Obligations.CheckerFindsAndLosesSync : Prop :=
  (∀ (row : Nat) (pixels : List Colour),
    rampLine row pixels = true ↔ ∀ (c : Nat) (p : Colour), pixels[c]? = some p →
      p.r.toNat = (c + 4 * row) % 1024 ∧ p.g.toNat = (c + 4 * row) % 1024 ∧ p.b.toNat = (c + 4 * row) % 1024) ∧
  (∀ (s : State) (i : InputIx) (good : Bool),
    let f := s.fronts.get i
    let t := s.checkLine i good
    let errors := if good = true then f.blockErrors else f.blockErrors + 1
    let counts : Bool := !good && f.counterKind == .checkErrors
    let judged :=
      { f with
        count := if counts then (if f.count < 65535 then f.count + 1 else 65535) else f.count
        countOver := f.countOver || (counts && decide (65535 ≤ f.count)) }
    let hunting := fun x : FrontEnd => { x with checker := .hunt, runCount := 0, blockPos := 0, blockErrors := 0 }
    let found : Prop := f.checker = .hunt ∧ good = true ∧ 7 ≤ f.runCount
    let lost : Prop := f.checker = .sync ∧ 7 ≤ errors
    t = { s with fronts := s.fronts.set i (t.fronts.get i), linkA := t.linkA, linkB := t.linkB } ∧
    t.fronts.get i =
      (match f.checker with
        | .off => f
        | .hunt =>
          if good = false then { f with runCount := 0 }
          else if 7 ≤ f.runCount then { f with checker := .sync, runCount := 0, blockPos := 0, blockErrors := 0 }
          else { f with runCount := f.runCount + 1 }
        | .sync =>
          if 7 ≤ errors then hunting judged
          else if 63 ≤ f.blockPos then { judged with blockPos := 0, blockErrors := 0 }
          else { judged with blockPos := f.blockPos + 1, blockErrors := errors }) ∧
    ∀ l, t.link l =
      if lost ∨ (found ∧ (s.link l).events.checkMode = .any) then
        { s.link l with events := (s.link l).events.latch .checkSync (some i.val) }
      else s.link l) ∧
  ∀ (s : State) (i : InputIx) (pixels : List Colour) (x : FrameInProgress), (s.fronts.get i).frame = some x →
    ∃ u : State, s.activeLine i pixels = u.checkLine i (rampLine x.lines pixels) ∧
      ((s.fronts.get i).loop = none →
        exec (.activeLine i pixels) s = .next (u.checkLine i (rampLine x.lines pixels))) ∧
      u = { s with fronts := u.fronts, rings := u.rings } ∧
      u.fronts.get i =
        { s.fronts.get i with
          frame := (u.fronts.get i).frame, count := (u.fronts.get i).count, countOver := (u.fronts.get i).countOver } ∧
      ∀ j, j ≠ i → u.fronts.get j = s.fronts.get j

/-- A frame that completes invalid is counted, its slot is freed and its lines are discarded; the monitor and every other slot stand, whatever the loop selection.
A frame is valid exactly when its lines have one width, of 640 to 1920, its height is 360 to 1080, and it has a period of 432,000 to 1,134,000 reference periods.
A looped frame is judged so too: the first one after a standby short enough is valid (the model's choice, log 32). -/
def Obligations.InvalidFrameIsAbandoned : Prop :=
  (∀ x : FrameInProgress,
    (x.validFormat = none ↔
      ¬ ∃ w p, x.firstWidth = some w ∧ x.period = some p ∧ x.lineError = false ∧ 640 ≤ w ∧ w ≤ 1920 ∧ 360 ≤ x.lines ∧
        x.lines ≤ 1080 ∧ 432000 ≤ p ∧ p ≤ 1134000) ∧
    ∀ got, x.validFormat = some got → x.firstWidth = some got.width ∧ x.lines = got.height ∧ x.period = some got.period) ∧
  ∀ (s : State) (i : InputIx) (audio : Option (List Stereo)) (x : FrameInProgress), (s.fronts.get i).frame = some x →
    x.validFormat = none →
    let f := s.fronts.get i
    let counts : Bool := f.counterKind == .invalidFrames
    let t := s.frameEnd i audio
    (f.loop = none → exec (.frameEnd i audio) s = .next t) ∧ t = { s with fronts := t.fronts, rings := t.rings } ∧
      t.fronts.get i =
        { f with
          frame := none
          count := if counts then (if f.count < 65535 then f.count + 1 else 65535) else f.count
          countOver := f.countOver || (counts && decide (65535 ≤ f.count)) } ∧
      (x.slot = none → t.rings = s.rings) ∧
      (∀ n, x.slot = some n →
        t.rings = s.rings.set i { s.rings.get i with slots := (s.rings.get i).slots.set n Slot.free }) ∧
      ∀ j, j ≠ i → t.fronts.get j = s.fronts.get j

/-- A frame begun in PRESENT that matches the latched format there restarts the miss interval and gives its audio, whether it holds a slot or was dropped.
One that holds a slot is published: its slot is READY, newest-ready and of the latched raster; the slot that was newest-ready is freed when no window reads it. One that was dropped leaves the ring as it is. All this holds whatever the loop selection.
A frame matches a format when width and height are the format's and 50 times the distance of the periods is at most the format's period. -/
def Obligations.MatchingFrameIsPublished : Prop :=
  (∀ c got : Format, c.matched got = true ↔
    got.width = c.width ∧ got.height = c.height ∧ 50 * ((got.period : Int) - c.period).natAbs ≤ c.period) ∧
  ∀ (s : State) (i : InputIx) (audio : Option (List Stereo)) (x : FrameInProgress) (got latched : Format),
    (s.fronts.get i).frame = some x → x.validFormat = some got → (s.fronts.get i).monitor = .present →
    (s.fronts.get i).latched = some latched → latched.matched got = true → x.startedPresent = true →
    let t := s.frameEnd i audio
    ((s.fronts.get i).loop = none → exec (.frameEnd i audio) s = .next t) ∧ t = { s with fronts := t.fronts, rings := t.rings } ∧
      t.fronts.get i =
        { s.fronts.get i with
          missCount := 0, missLeft := some (latched.period * 5 / 4), frame := none, audioPresent := audio.isSome
          fifo := match audio with
            | none => (s.fronts.get i).fifo
            | some xs => ((s.fronts.get i).fifo ++ xs).take 4096 } ∧
      (x.slot = none → t.rings = s.rings) ∧
      (∀ n, x.slot = some n → (s.rings.get i).newest ≠ some n →
        (t.rings.get i).newest = some n ∧
        (t.rings.get i).slots.get n =
          { (s.rings.get i).slots.get n with state := .ready, width := latched.width, height := latched.height } ∧
        ∀ m, m ≠ n → (t.rings.get i).slots.get m =
          if (s.rings.get i).newest = some m ∧ ((s.rings.get i).slots.get m).readers = 0 then Slot.free
          else (s.rings.get i).slots.get m) ∧
      ∀ j, j ≠ i → t.rings.get j = s.rings.get j ∧ t.fronts.get j = s.fronts.get j

/-- The monitor at a valid frame: LOST to ACQUIRING, a match counted, the M-th match to PRESENT, a new candidate, and PRESENT to ACQUIRING.
INPUT_STATE with the input's index is latched at each change on the links whose edge mode admits every change, RASTER_CHANGE on both links at the last, and nothing else; the slot of the frame, if it holds one, is freed. All this holds whatever the loop selection.
That the miss count stands while PRESENT goes to ACQUIRING is the model's reading (log 24). -/
def Obligations.MonitorFollowsValidFrames : Prop :=
  ∀ (s : State) (i : InputIx) (audio : Option (List Stereo)) (x : FrameInProgress) (got : Format),
    (s.fronts.get i).frame = some x → x.validFormat = some got →
    let f := s.fronts.get i
    let m := match f.criterion with | .quick => 3 | .steady => 30
    let told := fun l : Link =>
      if (s.link l).events.inputMode = .any then (s.link l).events.latch .inputState (some i.val) else (s.link l).events
    let candidate :=
      { f with
        monitor := .acquiring, candidate := some got, acqCount := 1, acqTimer := some 50, missLeft := none, frame := none }
    let t := s.frameEnd i audio
    (f.loop = none → exec (.frameEnd i audio) s = .next t) ∧
      (¬ (f.monitor = .present ∧ ∃ c, f.latched = some c ∧ c.matched got = true) →
        t = { s with fronts := t.fronts, rings := t.rings, linkA := t.linkA, linkB := t.linkB } ∧
        (x.slot = none → t.rings = s.rings) ∧
        (∀ n, x.slot = some n →
          t.rings = s.rings.set i { s.rings.get i with slots := (s.rings.get i).slots.set n Slot.free }) ∧
        ∀ j, j ≠ i → t.fronts.get j = s.fronts.get j) ∧
      (f.monitor = .lost → t.fronts.get i = candidate ∧ ∀ l, t.link l = { s.link l with events := told l }) ∧
      (∀ c, f.monitor = .acquiring → f.candidate = some c → c.matched got = true →
        (m ≤ f.acqCount + 1 →
          t.fronts.get i =
            { f with
              monitor := .present, latched := some c, candidate := none, acqCount := 0, missCount := 0, acqTimer := none
              missLeft := some (c.period * 5 / 4), slate := .idle, slateTimer := .stopped, frame := none } ∧
          ∀ l, t.link l = { s.link l with events := told l }) ∧
        (f.acqCount + 1 < m →
          t.fronts.get i = { f with acqCount := f.acqCount + 1, acqTimer := some 50, frame := none } ∧
          ∀ l, t.link l = s.link l)) ∧
      (∀ c, f.monitor = .acquiring → f.candidate = some c → c.matched got = false →
        t.fronts.get i = candidate ∧ ∀ l, t.link l = s.link l) ∧
      (∀ c, f.monitor = .present → f.latched = some c → c.matched got = false →
        t.fronts.get i =
          { candidate with
            fifo := [], audioPresent := false
            slate := match f.slateMode with | .hold => .holding | .fill => .fill
            slateTimer := match f.slateMode with
              | .hold => if f.holdTime = 0 then .indefinite else .running (f.holdTime * 1000)
              | .fill => .stopped } ∧
        ∀ l, t.link l = { s.link l with events := (told l).latch .rasterChange (some i.val) })

/-- The acquisition timer returns the monitor to LOST, the N-th miss takes it to LOST with the latched format kept, the slot of the frame in progress freed and the slate at hold or fill, and a slate hold that runs out shows fill; the time left passes first (log 2).
At each entry to LOST a checker in SYNC goes to HUNT, and each link, whose edge modes admit a loss, latches CHECK_SYNC for that and INPUT_STATE with the input's index.
The timers in milliseconds end at a millisecond tick, whose phase is the model's choice (log 1); what the passing time does is said in LapseAndExpiryRelease. -/
def Obligations.InputTimersExpire : Prop :=
  ∀ (s : State) (i : InputIx),
    let f := s.fronts.get i
    let hunting := fun g : FrontEnd =>
      if g.checker = .sync then { g with checker := .hunt, runCount := 0, blockPos := 0, blockErrors := 0 } else g
    let lost := fun g : FrontEnd =>
      hunting
        { g with monitor := .lost, candidate := none, acqCount := 0, missCount := 0, acqTimer := none, missLeft := none }
    let told := fun e : EventState =>
      (if f.checker = .sync then e.latch .checkSync (some i.val) else e).latch .inputState (some i.val)
    let toTick := fun ms : Nat => if ms = 0 then 0 else (ms - 1) * 27000 + (27000 - s.clock % 27000)
    (∀ ms, f.monitor = .acquiring → f.acqTimer = some ms →
      let u := s.elapse (toTick ms)
      ∃ t, exec (.acquisitionTimerExpiry i) s = .next t ∧
        t = { u with fronts := u.fronts.set i (lost (u.fronts.get i)), linkA := t.linkA, linkB := t.linkB } ∧
        ∀ l, t.link l = { u.link l with events := told (u.link l).events }) ∧
    (∀ c left, f.monitor = .present → f.missLeft = some left → f.latched = some c →
      let u := s.elapse left
      let g := u.fronts.get i
      let n := match f.criterion with | .quick => 2 | .steady => 30
      (f.missCount + 1 < n →
        let missed := { g with missCount := f.missCount + 1, missLeft := some (c.period * 5 / 4) }
        exec (.missIntervalExpiry i) s = .next { u with fronts := u.fronts.set i missed }) ∧
      (n ≤ f.missCount + 1 → ∃ t, exec (.missIntervalExpiry i) s = .next t ∧
        t = { u with fronts := t.fronts, rings := t.rings, linkA := t.linkA, linkB := t.linkB } ∧
        t.fronts.get i =
          lost
            { g with
              frame := f.frame.map fun x => { x with slot := none }
              fifo := [], audioPresent := false
              slate := match f.slateMode with | .hold => .holding | .fill => .fill
              slateTimer := match f.slateMode with
                | .hold => if f.holdTime = 0 then .indefinite else .running (f.holdTime * 1000)
                | .fill => .stopped } ∧
        (t.fronts.get i).latched = some c ∧ (∀ j, j ≠ i → t.fronts.get j = u.fronts.get j) ∧
        ((∀ x, f.frame = some x → x.slot = none) → t.rings = s.rings) ∧
        (∀ x k, f.frame = some x → x.slot = some k →
          t.rings = s.rings.set i { s.rings.get i with slots := (s.rings.get i).slots.set k Slot.free }) ∧
        ∀ l, t.link l = { u.link l with events := told (u.link l).events })) ∧
    (∀ ms, f.slate = .holding → f.slateTimer = .running ms →
      let u := s.elapse (toTick ms)
      exec (.slateHoldExpiry i) s =
        .next { u with fronts := u.fronts.set i { u.fronts.get i with slate := .fill, slateTimer := .stopped } })

/-! ## Audio -/

/-- Division by 1024 is to nearest, with ties away from zero. -/
def Obligations.RoundingIsToNearestTiesAwayFromZero : Prop :=
  ∀ n : Int, 2 * (n - 1024 * round1024 n).natAbs ≤ 1024 ∧
    (2 * (n - 1024 * round1024 n).natAbs = 1024 → n.natAbs ≤ (1024 * round1024 n).natAbs) ∧ round1024 (-n) = - round1024 n

/-- A sample period: a MIX or FOLLOW zone that is not ducked writes the sum of sample times gain over 1024, times level over 1024, limited to 24 bits; a ducked one lowers the mix by the duck gain and adds the announce sample; an OFF zone writes 0.
Without delay the output is the sample written; a delay of d ms puts out the sample written d × 48 periods earlier, 0 when there is none (the line's form is the model's, log 21).
A sample that is limited on either channel clips: the clip count rises, the current block's mark is set, and with both marks clear before it AUDIO_CLIP is raised on both links.
At the first sample of a block the current mark moves into the previous one (the model's reading, log 11). -/
def Obligations.ZoneOutputsBySamplePeriod : Prop :=
  ∀ (s : State) (an : Sample) (z : ZoneIx), s.detector.due = false →
    let r := (s.zones.get z).record
    let line := (s.zones.get z).line
    let sample := fun src : AudioSource => match src with
      | .an => (an.toInt, an.toInt)
      | .input i => match (s.fronts.get i).audioPresent, (s.fronts.get i).fifo with
        | true, x :: _ => (x.left.toInt, x.right.toInt)
        | true, [] => (0, 0)
        | false, _ => (0, 0)
    let sources : List (AudioSource × Int) := match r.mode with
      | .off => []
      | .mix => r.contributions.map fun c => (c.source, (c.gain : Int))
      | .follow => match (s.comps.get r.follow).live.main.source with
        | some i => [(.input i, 1024)]
        | none => []
    let limit := fun y : Int => if 8388607 < y then 8388607 else if y < -8388608 then -8388608 else y
    let mixed := fun pick : Int × Int → Int =>
      let m := round1024 (sources.map fun c => pick (sample c.1) * c.2).sum
      let ducked := round1024 (m * (r.duckGain : Int)) + round1024 (an.toInt * (r.announceGain : Int))
      let level := round1024 ((if r.duckEnable = true ∧ s.detector.state = .active then ducked else m) * (r.level : Int))
      if r.mode = .off then 0 else level
    let y := (limit (mixed Prod.fst), limit (mixed Prod.snd))
    let clip : Bool := limit (mixed Prod.fst) != mixed Prod.fst || limit (mixed Prod.snd) != mixed Prod.snd
    let current := if s.detector.pos = 0 then false else (s.zones.get z).curMark
    let previous := if s.detector.pos = 0 then (s.zones.get z).curMark else (s.zones.get z).prevMark
    let raised : Bool := clip && !current && !previous
    ∃ t, exec (.samplePeriod an) s = .next t ∧ (t.zones.get z).record = r ∧
      (t.zones.get z).line = y :: line.take 9599 ∧
      (t.zones.get z).out = (if r.delay = 0 then y else line.getD (r.delay * 48 - 1) (0, 0)) ∧
      (t.zones.get z).curMark = (current || clip) ∧ (t.zones.get z).prevMark = previous ∧
      (t.zones.get z).clipCount =
        (if clip = false then (s.zones.get z).clipCount
        else if (s.zones.get z).clipCount < 65535 then (s.zones.get z).clipCount + 1 else 65535) ∧
      ∀ l, ((t.link l).events.sets.get 10).getLsbD z.val = (((s.link l).events.sets.get 10).getLsbD z.val || raised) ∧
        (raised = true → (t.link l).events.latches.get 10 = true)

/-- A sample period takes one sample from every input FIFO, raises the block peak and moves the block position; the 480th sample makes the judgement due.
A sample period that finds a judgement still due takes it first and is then a sample period without one; that, and the mark of what is due, is the model's choice (log 10). -/
def Obligations.SamplePeriodFeedsTheDetector : Prop :=
  (∀ (s : State) (an : Sample), s.detector.due = true →
    ∃ t, exec .blockJudgement s = .next t ∧ t.detector.due = false ∧ t.detector.pos = 0 ∧ t.detector.peak = 0 ∧
      exec (.samplePeriod an) s = exec (.samplePeriod an) t) ∧
  ∀ (s : State) (an : Sample), s.detector.due = false → s.detector.pos < 480 →
    ∃ t, exec (.samplePeriod an) s = .next t ∧
      t = { s with zones := t.zones, fronts := t.fronts, detector := t.detector, linkA := t.linkA, linkB := t.linkB } ∧
      (∀ i, t.fronts.get i = { s.fronts.get i with fifo := (s.fronts.get i).fifo.tail }) ∧
      t.detector =
        { s.detector with
          peak := max s.detector.peak an.toInt.natAbs
          pos := if s.detector.pos = 479 then 0 else s.detector.pos + 1
          due := decide (s.detector.pos = 479) } ∧
      ∀ l, t.link l = { s.link l with events := (t.link l).events }

/-- The judgement of a block that is due (the mark is the model's, log 10): state and run count by the table, peak and position cleared, and ANNOUNCE at a change of state as each link's edge mode admits it. -/
def Obligations.BlockJudgementByTheTable : Prop :=
  ∀ s : State, s.detector.due = true →
    let d := s.detector
    let loud := d.settings.threshold ≤ d.peak
    let up := if d.run < 255 then d.run + 1 else 255
    let after := fun (st : DetectorState) (run : Nat) => { d with state := st, run := run, peak := 0, pos := 0, due := false }
    ∃ t, exec .blockJudgement s = .next t ∧
      t = { s with detector := t.detector, linkA := t.linkA, linkB := t.linkB } ∧
      t.detector =
        (match d.state with
          | .idle => if loud then if d.settings.nd ≤ up then after .active 0 else after .idle up else after .idle 0
          | .active => if loud then after .active 0 else if d.settings.nc ≤ up then after .idle 0 else after .active up) ∧
      ∀ l, t.link l =
        (if t.detector.state ≠ d.state ∧ ((s.link l).events.announceMode = .any ∨ t.detector.state = .active) then
          { s.link l with events := (s.link l).events.latch .announce none }
        else s.link l)

/-! ## Pool, compositors and pictures -/

/-- A grant opportunity: Feature round, Ambient grant with recapture, new round, or no waiter.
The release stage of a commit, window by window: a WAITING window that needs no scaler, or whose screen is ECONOMY, leaves the list; a SCALED or GRANTED one gives its scaler up, and that scaler is a grant opportunity at once.
The service it takes is the one its plan calls for: OFF, OFFSCREEN, EXACT or ECONOMY.
All four windows leave before any gives up its scaler; a change of the Live class takes the screen's windows out of both snapshots first (the model's reading, log 14), and a commit that enters STANDBY takes every window of the screen out of list and snapshots.
At its standby stage each window that still holds a scaler gives it up in the order W0 to W3, and each is a grant opportunity before the next window is looked at. -/
def Obligations.ArbitrationInItsFourCases : Prop :=
  (∀ (s : State) (n : ScalerIx),
    let t := s.offer n
    let of := fun (c : ScreenClass) (ws : List WallWindow) => ws.filter fun v => s.classOf v == c
    let granted := fun (w : WallWindow) =>
      t.pool.scalers = s.pool.scalers.set n (.granted w) ∧ t.plan w = { s.plan w with service := .granted, scaler := some n } ∧
        (∀ v, v ≠ w → t.plan v = s.plan v) ∧ t.pool.waiting = s.pool.waiting.filter (· ≠ w)
    (∀ w rest, s.pool.feature = w :: rest → granted w ∧ t.pool.feature = rest.filter (· ≠ w) ∧
      t.pool.ambient = s.pool.ambient.filter (· ≠ w)) ∧
    (∀ w rest, s.pool.feature = [] → s.pool.ambient = w :: rest → granted w ∧ t.pool.ambient = rest.filter (· ≠ w) ∧
      t.pool.feature = of .feature (s.pool.waiting.filter (· ≠ w))) ∧
    (∀ w rest, s.pool.feature = [] → s.pool.ambient = [] → of .feature s.pool.waiting = w :: rest →
      granted w ∧ t.pool.feature = rest.filter (· ≠ w) ∧ t.pool.ambient = (of .ambient s.pool.waiting).filter (· ≠ w)) ∧
    (∀ w rest, s.pool.feature = [] → s.pool.ambient = [] → of .feature s.pool.waiting = [] →
      of .ambient s.pool.waiting = w :: rest →
      granted w ∧ t.pool.feature = [] ∧ t.pool.ambient = rest.filter (· ≠ w)) ∧
    (s.pool.feature = [] → s.pool.ambient = [] → of .feature s.pool.waiting = [] → of .ambient s.pool.waiting = [] →
      t = { s with pool := { s.pool with scalers := s.pool.scalers.set n .free } })) ∧
  (∀ (old : Compositor) (s : State) (scr : ScreenIx),
    let others := fun ws : List WallWindow => ws.filter fun w => screenOf w ≠ scr
    let dropped := { s with pool := { s.pool with feature := others s.pool.feature, ambient := others s.pool.ambient } }
    (old.live.settings.cls ≠ (s.comps.get scr).live.settings.cls → s.releaseStage old scr = dropped.releasePasses scr) ∧
    (old.live.settings.cls = (s.comps.get scr).live.settings.cls → s.releaseStage old scr = s.releasePasses scr) ∧
    s.releasePasses scr =
      [0, 1, 2, 3].foldl (State.releaseWindow scr) ([0, 1, 2, 3].foldl (State.leaveWindow scr) s) ∧
    s.leaveAll scr = { dropped with pool := { dropped.pool with waiting := others s.pool.waiting } }) ∧
  ∀ (s : State) (scr : ScreenIx) (k : WindowIx),
    let w := wallWindow scr k
    let q := s.plan w
    let economy : Prop := (s.comps.get scr).live.settings.cls = .economy
    let dismissed : Prop := s.needOf scr k ≠ .scaler ∨ economy
    let called : Service := match s.needOf scr k with
      | .off => .off
      | .offscreen => .offscreen
      | .exact => .exact
      | .scaler => .economy
    (q.service = .waiting → dismissed →
      s.leaveWindow scr k =
        { s with pool :=
          { s.pool with
            waiting := s.pool.waiting.filter (· ≠ w), feature := s.pool.feature.filter (· ≠ w)
            ambient := s.pool.ambient.filter (· ≠ w) } }.setPlan w { q with service := called }) ∧
    (q.service ≠ .waiting ∨ ¬ dismissed → s.leaveWindow scr k = s) ∧
    (∀ n, q.service = .scaled ∨ q.service = .granted → dismissed → q.scaler = some n →
      s.releaseWindow scr k = (s.setPlan w { q with service := called, scaler := none }).offer n) ∧
    ((q.service ≠ .scaled ∧ q.service ≠ .granted) ∨ ¬ dismissed → s.releaseWindow scr k = s) ∧
    (∀ n, q.scaler = some n →
      s.standbyRelease scr k = (s.setPlan w { q with service := .offscreen, scaler := none }).offer n) ∧
    (q.scaler = none → s.standbyRelease scr k = s)

/-- A screen in STANDBY has no boundary. BOUNDARY of an ACTIVE screen: Staged is copied unless the screen is held; the screen then begins a frame of its Live rate with none of its windows GRANTED, or enters STANDBY with every window OFF or OFFSCREEN, no slot and no scaler.
The commit is its stages in their order, after the time to the boundary has passed (log 2; none before the first one, log 5) and looped inputs have taken the frame that ends (log 16).
The request stage, window by window: a GRANTED window that needs its scaler is activated, a SCALED or WAITING one stands, and one that holds none is ECONOMY on an ECONOMY screen, takes the lowest FREE scaler, or joins the list's tail; SCALER_WAIT is raised once when a window has joined.
The copy stage; the start of a frame sets the timing, and then the looped inputs take its start.
The standby stage: each scaler is given up in the order W0 to W3, each window gives up the slot it read, and each with a source is OFFSCREEN with raster, crop and steps kept, the P of its scaled placement (log 13) and an empty V. -/
def Obligations.BoundaryCopiesAndBeginsAFrame : Prop :=
  (∀ (s : State) (scr : ScreenIx),
    ((s.comps.get scr).run = .standby → exec (.boundary scr) s = .next s) ∧
    ((s.comps.get scr).run = .active →
    let live := if (s.holds.get scr).holder = none then s.staged.get scr else (s.comps.get scr).live
    let left := match (s.comps.get scr).timing with
      | .running _ left _ => left
      | .starting _ => 0
      | .stopped => 0
    let u := s.elapse left
    let v := u.endLoopedFrames scr
    let planned := (v.copyStage scr).planStage (v.comps.get scr) scr
    ∃ t, exec (.boundary scr) s = .next t ∧ (t.comps.get scr).live = live ∧
      t =
        (if live.settings.standby then ((planned.leaveAll scr).releasePasses scr).standbyStage (v.comps.get scr) scr
        else
          (((planned.releaseStage (v.comps.get scr) scr).requestStage scr).slotStage (v.comps.get scr) scr).startFrame
            scr false) ∧
      (live.settings.standby = false → (t.comps.get scr).run = .active ∧
        (t.comps.get scr).timing = .running live.settings.rate.period live.settings.rate.period false ∧
        ∀ k, ((t.comps.get scr).plans.get k).service ≠ .granted) ∧
      (live.settings.standby = true → (t.comps.get scr).run = .standby ∧ (t.comps.get scr).timing = .stopped ∧
        ∀ k, ((t.comps.get scr).plans.get k).slot = none ∧ ((t.comps.get scr).plans.get k).scaler = none ∧
          ((t.comps.get scr).plans.get k).v.w = 0 ∧ ((t.comps.get scr).plans.get k).v.h = 0 ∧
          ((t.comps.get scr).plans.get k).service =
            if ((t.comps.get scr).plans.get k).source = none then .off else .offscreen) ∧
      (∀ k, k ≠ scr → (t.comps.get k).live = (s.comps.get k).live ∧ (t.comps.get k).run = (s.comps.get k).run) ∧
      t.staged = s.staged ∧ t.pins = u.pins ∧ t.zones = s.zones ∧ t.detector = s.detector ∧ t.marker = s.marker ∧
      ∀ l, (t.link l).edits = (s.link l).edits ∧ (t.link l).replies = (s.link l).replies)) ∧
  (∀ (s : State) (scr : ScreenIx) (k : WindowIx) (joined : Bool),
    let w := wallWindow scr k
    let q := s.plan w
    let done := State.requestWindow scr (s, joined) k
    let fresh : Prop := q.service = .off ∨ q.service = .offscreen ∨ q.service = .exact ∨ q.service = .economy
    let economy : Prop := (s.comps.get scr).live.settings.cls = .economy
    let active := fun n : ScalerIx =>
      ({ s with pool := { s.pool with scalers := s.pool.scalers.set n (.active w) } }.setPlan w
        { q with service := .scaled, scaler := some n }, joined)
    (s.needOf scr k = .off → done = (s.setPlan w { q with service := .off }, joined)) ∧
    (s.needOf scr k = .offscreen → done = (s.setPlan w { q with service := .offscreen }, joined)) ∧
    (s.needOf scr k = .exact → done = (s.setPlan w { q with service := .exact }, joined)) ∧
    (s.needOf scr k = .scaler →
      (q.service = .scaled ∨ q.service = .waiting → done = (s, joined)) ∧
      (∀ n, q.service = .granted → q.scaler = some n → done = active n) ∧
      (fresh → economy → done = (s.setPlan w { q with service := .economy }, joined)) ∧
      (∀ n, fresh → ¬ economy → s.pool.scalers.get n = .free → (∀ m, m < n → s.pool.scalers.get m ≠ .free) →
        done = active n) ∧
      (fresh → ¬ economy → (∀ n, s.pool.scalers.get n ≠ .free) →
        done =
          ({ s with pool := { s.pool with waiting := s.pool.waiting ++ [w] } }.setPlan w
            { q with service := .waiting }, true)))) ∧
  (∀ (old : Compositor) (s : State) (scr : ScreenIx),
    let given := [0, 1, 2, 3].foldl (State.standbyRelease scr) s
    let freed := [0, 1, 2, 3].foldl (State.giveUpSlot old) given
    let c := freed.comps.get scr
    let t := s.standbyStage old scr
    let slept := { c with run := .standby, timing := .stopped, plans := (t.comps.get scr).plans }
    t = { freed with comps := freed.comps.set scr slept } ∧
    ∀ k,
      let q := c.plans.get k
      let r := (c.live.window k).rect
      (q.source = none → (t.comps.get scr).plans.get k = .off) ∧
      (q.source ≠ none → ∃ x y, (t.comps.get scr).plans.get k =
        { q with
          service := .offscreen, p := (scaledPlacement q.cl q.wc q.ct q.hc r).picture, v := ⟨x, y, 0, 0⟩
          ph0 := 0, pv0 := 0, d := 0, slot := none, scaler := none })) ∧
  (∀ (old : Compositor) (s : State) (k : WindowIx),
    let q := old.plans.get k
    (q.source = none ∨ q.slot = none → s.giveUpSlot old k = s) ∧
    ∀ i n, q.source = some i → q.slot = some n →
      let r := s.rings.get i
      let x := r.slots.get n
      let left := if x.readers ≤ 1 ∧ r.newest ≠ some n then Slot.free else { x with readers := x.readers - 1 }
      s.giveUpSlot old k = { s with rings := s.rings.set i { r with slots := r.slots.set n left } }) ∧
  (∀ (s : State) (scr : ScreenIx) (leadIn : Bool),
    let c := s.comps.get scr
    let copied := { s with comps := s.comps.set scr { c with live := s.staged.get scr } }
    let period := c.live.settings.rate.period
    let timed := { s with comps := s.comps.set scr { c with timing := .running period period leadIn } }
    s.copyStage scr = (if (s.holds.get scr).holder = none then copied else s) ∧
    s.startFrame scr leadIn = timed.startLoopedFrames scr ∧
    s.toBoundary scr =
      match c.timing with
      | .running _ left _ => left
      | .starting _ => 0
      | .stopped => 0) ∧
  (Rate.hz50.period = 540000 ∧ Rate.hz59_94.period = 450450 ∧ Rate.hz60.period = 450000) ∧
  ∀ (s : State) (scr : ScreenIx),
    let asked := [0, 1, 2, 3].foldl (State.requestWindow scr) (s, false)
    let t := s.requestStage scr
    t.pool = asked.1.pool ∧
    (∀ k, (t.comps.get scr).plans.get k =
      ((asked.1.comps.get scr).plans.get k).place ((asked.1.comps.get scr).live.window k).rect) ∧
    ∀ l, t.link l =
      if asked.2 = true then { s.link l with events := (s.link l).events.latch .scalerWait (some scr.val) } else s.link l

/-- After a boundary a window reads the newest-ready slot of its source when it is EXACT, SCALED, WAITING, GRANTED or ECONOMY and its source is shown as picture; otherwise it reads none.
A source is shown as picture when its ring has a newest-ready slot and it is PRESENT or its slate holds, and else as fill with its fill colour; it is planned against the raster of that slot, or against 1920 × 1080 as fill.
Rings of inputs not looped from the screen keep their newest-ready slots; a looped one publishes its frame before the commit (log 16).
The slot stage: each window gives up the slot it read, W0 to W3, and then each takes its new one, whose readers rise. -/
def Obligations.WindowsReadTheNewestReadySlot : Prop :=
  (∀ (old : Compositor) (s : State) (scr : ScreenIx),
    s.slotStage old scr =
      [0, 1, 2, 3].foldl (State.takeSlot scr) ([0, 1, 2, 3].foldl (State.giveUpSlot old) s)) ∧
  (∀ (s : State) (scr : ScreenIx) (k : WindowIx),
    let c := s.comps.get scr
    let q := c.plans.get k
    let reading := fun slot : Option SlotIx => s.comps.set scr { c with plans := c.plans.set k { q with slot := slot } }
    let reads : Prop := q.service ≠ .off ∧ q.service ≠ .offscreen ∧ c.shown.get k = .picture
    (∀ i n, q.source = some i → reads → (s.rings.get i).newest = some n →
      let r := s.rings.get i
      let x := r.slots.get n
      s.takeSlot scr k =
        { s with
          comps := reading (some n)
          rings := s.rings.set i { r with slots := r.slots.set n { x with readers := x.readers + 1 } } }) ∧
    ((∀ i n, q.source = some i → reads → (s.rings.get i).newest ≠ some n) →
      s.takeSlot scr k = { s with comps := reading none })) ∧
  (∀ (s t : State) (scr : ScreenIx) (k : WindowIx) (n : SlotIx), (s.comps.get scr).run = .active →
    exec (.boundary scr) s = .next t → ((t.comps.get scr).plans.get k).slot = some n →
    ∃ i, ((t.comps.get scr).plans.get k).source = some i ∧ (t.rings.get i).newest = some n ∧
      ((s.elapse (s.toBoundary scr)).endLoopedFrames scr).rings.get i = { (s.rings.get i) with
        slots := (((s.elapse (s.toBoundary scr)).endLoopedFrames scr).rings.get i).slots, newest := some n } ∧
      ((s.fronts.get i).loop ≠ some scr → (s.rings.get i).newest = some n)) ∧
  (∀ (s : State) (scr : ScreenIx) (k : WindowIx) (i : InputIx), (s.comps.get scr).run = .active →
    ∃ t, exec (.boundary scr) s = .next t ∧
      let q := (t.comps.get scr).plans.get k
      let v := (s.elapse (s.toBoundary scr)).endLoopedFrames scr
      ((t.comps.get scr).run = .active → q.source = some i → ((t.comps.get scr).live.window k).source = some i →
        (t.comps.get scr).shown.get k = v.sourceShown i ∧
        q.slot =
          if q.service ≠ .off ∧ q.service ≠ .offscreen ∧
            ((v.fronts.get i).monitor = .present ∨ (v.fronts.get i).slate = .holding) then (v.rings.get i).newest
          else none)) ∧
  ∀ (s : State) (i : InputIx),
    let picture : Prop := (s.rings.get i).newest ≠ none ∧ ((s.fronts.get i).monitor = .present ∨ (s.fronts.get i).slate = .holding)
    s.sourceShown i = (if picture then .picture else .fill (s.fronts.get i).fillColour) ∧
    (∀ n, (s.rings.get i).newest = some n → picture →
      s.planningRaster i = (((s.rings.get i).slots.get n).width, ((s.rings.get i).slots.get n).height)) ∧
    (¬ picture → s.planningRaster i = (1920, 1080))

/-- The steps a plan records lie in 512 to 32768; a raw step beyond either bound becomes the bound, and one between them stands as the rounded ratio of crop to rectangle.
The effective crop of an axis is what the margins leave, or the whole raster when that is fewer than 16 pixels.
A window is planned afresh at a commit when its Live request or the Live class changed, its planning raster differs, its plan is OFF, or it is OFFSCREEN at the first commit after a wake; otherwise its plan stands. The plan stage does this for W0 to W3 in their order. -/
def Obligations.StepsAreRoundedAndClamped : Prop :=
  (∀ (old : Compositor) (s : State) (scr : ScreenIx),
    s.planStage old scr = [0, 1, 2, 3].foldl (State.planWindow old scr) s) ∧
  (∀ crop rect : Nat, 0 < rect →
    let raw := (crop * 4096 + rect / 2) / rect
    512 ≤ step1 crop rect ∧ step1 crop rect ≤ 32768 ∧ (512 ≤ raw → raw ≤ 32768 → step1 crop rect = raw) ∧
    (raw < 512 → step1 crop rect = 512) ∧ (32768 < raw → step1 crop rect = 32768) ∧
    ∀ d, d = 1 ∨ d = 2 ∨ d = 4 ∨ d = 8 → rect ≤ 3840 → (raw = d * 4096 ↔ crop = d * rect)) ∧
  (∀ (q : Plan) (r : WindowRequest) (ws hs : Nat),
    let p := q.replan r ws hs
    let placed := scaledPlacement p.cl p.wc p.ct p.hc r.rect
    (r.crop.cl + r.crop.cr + 16 ≤ ws → p.cl = r.crop.cl ∧ p.wc = ws - r.crop.cl - r.crop.cr) ∧
    (ws < r.crop.cl + r.crop.cr + 16 → p.cl = 0 ∧ p.wc = ws) ∧
    (r.crop.ct + r.crop.cb + 16 ≤ hs → p.ct = r.crop.ct ∧ p.hc = hs - r.crop.ct - r.crop.cb) ∧
    (hs < r.crop.ct + r.crop.cb + 16 → p.ct = 0 ∧ p.hc = hs) ∧
    p.cropIgnored = decide (ws < r.crop.cl + r.crop.cr + 16 ∨ hs < r.crop.ct + r.crop.cb + 16) ∧
    p.ws = ws ∧ p.hs = hs ∧ p.source = r.source ∧ p.sh = step1 p.wc r.rect.w ∧ p.sv = step1 p.hc r.rect.h ∧
    p.p = placed.picture ∧ p.v = placed.visible ∧ p.ph0 = placed.x.phase ∧ p.pv0 = placed.y.phase ∧
    p.service = q.service ∧ p.slot = q.slot ∧ p.scaler = q.scaler ∧ p.d = q.d) ∧
  ∀ (old : Compositor) (scr : ScreenIx) (s : State) (k : WindowIx),
    let c := s.comps.get scr
    let q := c.plans.get k
    let r := c.live.window k
    let t := s.planWindow old scr k
    let after := (t.comps.get scr).plans.get k
    t = { s with comps := s.comps.set scr (t.comps.get scr) } ∧
    (t.comps.get scr) = { c with plans := (t.comps.get scr).plans, shown := (t.comps.get scr).shown } ∧
    (∀ j, j ≠ k → (t.comps.get scr).plans.get j = c.plans.get j ∧ (t.comps.get scr).shown.get j = c.shown.get j) ∧
    (r.source = none →
      after = { service := q.service, source := none, ws := 0, hs := 0, cl := 0, ct := 0, wc := 0, hc := 0
                cropIgnored := false, sh := 0, sv := 0, p := ⟨0, 0, 0, 0⟩, v := ⟨0, 0, 0, 0⟩, ph0 := 0, pv0 := 0, d := 0
                slot := q.slot, scaler := q.scaler }) ∧
    ∀ i, r.source = some i →
      let changed : Prop :=
        (if h : 1 ≤ k.val then old.live.insets.get ⟨k.val - 1, by omega⟩ ≠ c.live.insets.get ⟨k.val - 1, by omega⟩
        else old.live.main ≠ c.live.main) ∨
        old.live.settings.cls ≠ c.live.settings.cls ∨ s.planningRaster i ≠ (q.ws, q.hs) ∨ q.service = .off ∨
        (q.service = .offscreen ∧ ∃ period left, old.timing = .running period left true)
      (t.comps.get scr).shown.get k = s.sourceShown i ∧
      (changed → after = q.replan r (s.planningRaster i).1 (s.planningRaster i).2) ∧ (¬ changed → after = q)

/-- A scaled picture lies inside its rectangle, and its visible rectangle is what of it lies on the canvas, inside both; an empty one has no pixel.
On each axis a reduction beyond 8 shows the central 8 × size source pixels, an enlargement beyond 8 is centred at 8 × the crop, and the start phase is the base and the distance to the first visible pixel in steps.
The need of a window, its coarse factor and coarse placement, and the placement its plan records in each service state. -/
def Obligations.VisibleInsidePictureInsideRectangle : Prop :=
  (∀ (cl wc ct hc : Nat) (r : Rect), 0 < r.w → 0 < r.h →
    let q := scaledPlacement cl wc ct hc r
    r.x ≤ q.picture.x ∧ q.picture.x + q.picture.w ≤ r.x + r.w ∧ r.y ≤ q.picture.y ∧ q.picture.y + q.picture.h ≤ r.y + r.h ∧
    (q.empty = true → q.visible.w = 0 ∧ q.visible.h = 0) ∧
    (q.empty = false → 0 ≤ q.visible.x ∧ q.visible.x + q.visible.w ≤ 1920 ∧ 0 ≤ q.visible.y ∧
      q.visible.y + q.visible.h ≤ 1080 ∧ q.picture.x ≤ q.visible.x ∧ q.picture.y ≤ q.visible.y ∧
      q.visible.x + q.visible.w ≤ q.picture.x + q.picture.w ∧ q.visible.y + q.visible.h ≤ q.picture.y + q.picture.h ∧
      0 < q.visible.w ∧ 0 < q.visible.h)) ∧
  (∀ (limit first crop rect : Nat) (pos : Int), 0 < rect →
    let raw := (crop * 4096 + rect / 2) / rect
    let a := scaledAxis limit first crop pos rect
    let base := if 32768 < raw then first + (crop - 8 * rect) / 2 else first
    a.p = (if raw < 512 then pos + ((rect - 8 * crop) / 2 : Nat) else pos) ∧
    a.size = (if raw < 512 then 8 * crop else rect) ∧
    a.v0 = max a.p 0 ∧ a.v1 = min (a.p + a.size) limit ∧
    (a.phase : Int) = base * 4096 + (a.v0 - a.p) * step1 crop rect) ∧
  (∀ (limit first crop rect d : Nat) (pos : Int), 0 < rect → 0 < d →
    let a := coarseAxis limit first crop pos rect d
    let base := if crop / d ≤ rect then first else first + (crop - 8 * rect) / 2
    a.size = min (crop / d) rect ∧ a.p = pos + ((rect - a.size) / 2 : Nat) ∧
    a.v0 = max a.p 0 ∧ a.v1 = min (a.p + a.size) limit ∧
    (a.phase : Int) = base * 4096 + (a.v0 - a.p) * (d * 4096)) ∧
  (∀ wc hc w h : Nat,
    let d := coarseFactor wc hc w h
    let fits := fun e : Nat => wc / e ≤ w ∧ hc / e ≤ h
    (d = 1 ∨ d = 2 ∨ d = 4 ∨ d = 8) ∧ (d ≠ 8 → fits d) ∧
      ∀ e, e = 1 ∨ e = 2 ∨ e = 4 ∨ e = 8 → e < d → ¬ fits e) ∧
  ∀ (q : Plan) (r : Rect),
    let scaled := scaledPlacement q.cl q.wc q.ct q.hc r
    let d := coarseFactor q.wc q.hc r.w r.h
    let coarse : Placement := { x := coarseAxis 1920 q.cl q.wc r.x r.w d, y := coarseAxis 1080 q.ct q.hc r.y r.h d }
    let exact := fun n : Nat => n = 4096 ∨ n = 8192 ∨ n = 16384 ∨ n = 32768
    q.need r =
      (if q.source = none then .off else if scaled.empty = true then .offscreen
      else if exact q.sh ∧ exact q.sv then .exact else .scaler) ∧
    (scaled.empty = true ↔ scaled.x.v1 ≤ scaled.x.v0 ∨ scaled.y.v1 ≤ scaled.y.v0) ∧
    (q.service = .off → q.place r = { Plan.off with slot := q.slot, scaler := q.scaler }) ∧
    (q.service = .offscreen → ∃ x y, q.place r =
      { q with p := scaled.picture, v := ⟨x, y, 0, 0⟩, ph0 := 0, pv0 := 0, d := 0 }) ∧
    (q.service = .exact ∨ q.service = .scaled → q.place r =
      { q with p := scaled.picture, v := scaled.visible, ph0 := scaled.x.phase, pv0 := scaled.y.phase, d := 0 }) ∧
    (q.service = .waiting ∨ q.service = .granted ∨ q.service = .economy → q.place r =
      { q with p := coarse.picture, v := coarse.visible, ph0 := coarse.x.phase, pv0 := coarse.y.phase, d := d })

/-- An interpolated component stays between the least and the greatest of the four it is formed from, and an averaged one between those of its block; the blend of an inset is the inset at 256, what lies below at 0, and between the two at every opacity.
The pixel of a screen's output: none without a frame, the Live background in a lead-in frame, and else background, main window, insets W1 to W3 and pattern, each layer over the one below.
A picture pixel of a window is interpolated (SCALED) or averaged over a block (EXACT, WAITING, GRANTED, ECONOMY) from its slot, read within its effective crop; a read outside the lines a slot holds is black (the model's choice, log 15). -/
def Obligations.PixelsStayBetweenTheirSources : Prop :=
  (∀ opacity top below : Nat, opacity ≤ 256 →
    blend 256 top below = top ∧ blend 0 top below = below ∧ blend opacity top top = top ∧
    min top below ≤ blend opacity top below ∧ blend opacity top below ≤ max top below) ∧
  (∀ (x : Slot) (q : Plan) (comp : Colour → Component) (lo hi px py : Nat),
    let c := px / 4096
    let r := py / 4096
    let between := fun n : Nat => lo ≤ n ∧ n ≤ hi
    (between (sampleAt x q comp c r) → between (sampleAt x q comp (c + 1) r) → between (sampleAt x q comp c (r + 1)) →
      between (sampleAt x q comp (c + 1) (r + 1)) → between (interpolate x q comp px py)) ∧
    ∀ dh dv, 0 < dh → 0 < dv → (∀ i j, i < dh → j < dv → between (sampleAt x q comp (c + i) (r + j))) →
      between (boxAverage x q comp px py dh dv)) ∧
  (∀ (s : State) (scr : ScreenIx) (c r : Nat),
    let k := s.comps.get scr
    let back := k.live.settings.background
    (∀ left, k.timing = .starting left → s.pixel scr c r = none) ∧ (k.timing = .stopped → s.pixel scr c r = none) ∧
    (∀ period left, k.timing = .running period left true → s.pixel scr c r = some back) ∧
    ∀ period left, k.timing = .running period left false →
      (k.live.settings.pattern = .none → s.pixel scr c r =
        some (s.insetLayer k 2 c r (s.insetLayer k 1 c r (s.insetLayer k 0 c r (s.mainLayer k c r back))))) ∧
      (k.live.settings.pattern = .solid → s.pixel scr c r = some back) ∧
      (k.live.settings.pattern = .ramp → ∃ v : Component, v.toNat = (c + 4 * r) % 1024 ∧ s.pixel scr c r = some ⟨v, v, v⟩) ∧
      (k.live.settings.pattern = .bars → s.pixel scr c r = some (barColour (c / 240))) ∧
      (k.live.settings.pattern = .idCard →
        (idCardLit (scr.val + 1) c r → s.pixel scr c r = some ⟨1023, 1023, 1023⟩) ∧
        (¬ idCardLit (scr.val + 1) c r → s.pixel scr c r = some back))) ∧
  ((List.range 8).map barColour =
    [⟨1023, 1023, 1023⟩, ⟨1023, 1023, 0⟩, ⟨0, 1023, 1023⟩, ⟨0, 1023, 0⟩, ⟨1023, 0, 1023⟩, ⟨1023, 0, 0⟩, ⟨0, 0, 1023⟩,
      ⟨0, 0, 0⟩]) ∧
  (∀ (s : State) (k : Compositor) (j : InsetIx) (c r : Int) (below : Colour),
    let drawn := fun q : Plan => q.service ≠ .off ∧ q.service ≠ .offscreen
    let main := k.plans.get 0
    let q := k.plans.get ⟨j.val + 1, by omega⟩
    let req := k.live.insets.get j
    let inside : Prop := req.x ≤ c ∧ c < req.x + req.w ∧ req.y ≤ r ∧ r < req.y + req.h
    let border : Prop := c < req.x + req.border ∨ req.x + req.w - req.border ≤ c ∨ r < req.y + req.border ∨
      req.y + req.h - req.border ≤ r
    let top := s.windowPixel q (k.shown.get ⟨j.val + 1, by omega⟩) req.colour c r
    let mix := fun comp : Colour → Component =>
      BitVec.ofNat 10 ((req.opacity * (comp top).toNat + (256 - req.opacity) * (comp below).toNat + 128) / 256)
    (drawn main → s.mainLayer k c r below = s.windowPixel main (k.shown.get 0) k.live.settings.background c r) ∧
    (¬ drawn main → s.mainLayer k c r below = below) ∧
    (¬ drawn q ∨ ¬ inside → s.insetLayer k j c r below = below) ∧
    (drawn q → inside → border → s.insetLayer k j c r below = req.colour) ∧
    (drawn q → inside → ¬ border → s.insetLayer k j c r below = ⟨mix Colour.r, mix Colour.g, mix Colour.b⟩)) ∧
  (∀ (s : State) (q : Plan) (matte : Colour) (c r : Int),
    let visible : Prop := q.v.x ≤ c ∧ c < q.v.x + q.v.w ∧ q.v.y ≤ r ∧ r < q.v.y + q.v.h
    (∀ shown, ¬ visible → s.windowPixel q shown matte c r = matte) ∧
    (∀ colour, visible → s.windowPixel q (.fill colour) matte c r = colour) ∧
    ∀ i n, visible → q.source = some i → q.slot = some n →
      let x := (s.rings.get i).slots.get n
      let cols := fun stp : Nat => q.ph0 + (c - q.v.x).toNat * stp
      let rows := fun stp : Nat => q.pv0 + (r - q.v.y).toNat * stp
      let comp := fun pick : Colour → Component => BitVec.ofNat 10
        (if q.service = .scaled then interpolate x q pick (cols q.sh) (rows q.sv)
        else if q.service = .exact then boxAverage x q pick (cols q.sh) (rows q.sv) (q.sh / 4096) (q.sv / 4096)
        else if q.service = .waiting ∨ q.service = .granted ∨ q.service = .economy then
          boxAverage x q pick (cols (q.d * 4096)) (rows (q.d * 4096)) q.d q.d
        else 0)
      s.windowPixel q .picture matte c r = ⟨comp Colour.r, comp Colour.g, comp Colour.b⟩) ∧
  ∀ (x : Slot) (q : Plan) (pick : Colour → Component) (px py dh dv c r : Nat),
    let read := fun c r : Nat =>
      (pick ((x.lines.getD (min r (q.ct + q.hc - 1)) []).getD (min c (q.cl + q.wc - 1)) ⟨0, 0, 0⟩)).toNat
    let f := px % 4096 / 256
    let g := py % 4096 / 256
    let across := fun row : Nat => (read (px / 4096) row * (16 - f) + read (px / 4096 + 1) row * f + 8) / 16
    let block := (List.range dv).flatMap fun j => (List.range dh).map fun i => read (px / 4096 + i) (py / 4096 + j)
    sampleAt x q pick c r = read c r ∧
    interpolate x q pick px py = (across (py / 4096) * (16 - g) + across (py / 4096 + 1) * g + 8) / 16 ∧
    boxAverage x q pick px py dh dv = (block.sum + dh * dv / 2) / (dh * dv)

/-! ## The laws every step keeps -/

def Obligations.EveryStepKeepsTheSceneLaw : Prop := ∀ s t : State, SceneLaw s → step s = .next t → SceneLaw t

def Obligations.EveryStepKeepsTheLinkLaw : Prop := ∀ s t : State, LinkLaw s → step s = .next t → LinkLaw t

def Obligations.EveryStepKeepsTheAudioLaw : Prop := ∀ s t : State, AudioLaw s → step s = .next t → AudioLaw t

def Obligations.EveryStepKeepsTheFrontLaw : Prop := ∀ s t : State, FrontLaw s → step s = .next t → FrontLaw t

def Obligations.EveryStepKeepsTheRingLaw : Prop := ∀ s t : State, RingLaw s → step s = .next t → RingLaw t

def Obligations.EveryStepKeepsThePoolLaw : Prop := ∀ s t : State, PoolLaw s → step s = .next t → PoolLaw t

/-- The six laws hold of the part right after reset. -/
def Obligations.TheLawsHoldAtReset : Prop :=
  SceneLaw State.reset ∧ LinkLaw State.reset ∧ AudioLaw State.reset ∧ FrontLaw State.reset ∧ RingLaw State.reset ∧
    PoolLaw State.reset
end

