-- ==== Sys2Proof/Laws/State.lean ====
section
/-! SUPPORT. One lemma per field of State per update of Machine/Ops.lean, true by rfl, so that no proof unfolds a record update. -/

namespace Sys2Proof.Machine.State

/-! ### setStaged -/

@[simp] theorem clock_setStaged (s : State) (scr : ScreenIx) (x : ScreenRecord) : (s.setStaged scr x).clock = s.clock := rfl
@[simp] theorem rank_setStaged (s : State) (scr : ScreenIx) (x : ScreenRecord) : (s.setStaged scr x).rank = s.rank := rfl
@[simp] theorem staged_setStaged (s : State) (scr : ScreenIx) (x : ScreenRecord) : (s.setStaged scr x).staged = s.staged.set scr x := rfl
@[simp] theorem comps_setStaged (s : State) (scr : ScreenIx) (x : ScreenRecord) : (s.setStaged scr x).comps = s.comps := rfl
@[simp] theorem pool_setStaged (s : State) (scr : ScreenIx) (x : ScreenRecord) : (s.setStaged scr x).pool = s.pool := rfl
@[simp] theorem fronts_setStaged (s : State) (scr : ScreenIx) (x : ScreenRecord) : (s.setStaged scr x).fronts = s.fronts := rfl
@[simp] theorem rings_setStaged (s : State) (scr : ScreenIx) (x : ScreenRecord) : (s.setStaged scr x).rings = s.rings := rfl
@[simp] theorem marker_setStaged (s : State) (scr : ScreenIx) (x : ScreenRecord) : (s.setStaged scr x).marker = s.marker := rfl
@[simp] theorem pins_setStaged (s : State) (scr : ScreenIx) (x : ScreenRecord) : (s.setStaged scr x).pins = s.pins := rfl
@[simp] theorem holds_setStaged (s : State) (scr : ScreenIx) (x : ScreenRecord) : (s.setStaged scr x).holds = s.holds := rfl
@[simp] theorem zones_setStaged (s : State) (scr : ScreenIx) (x : ScreenRecord) : (s.setStaged scr x).zones = s.zones := rfl
@[simp] theorem detector_setStaged (s : State) (scr : ScreenIx) (x : ScreenRecord) : (s.setStaged scr x).detector = s.detector := rfl
@[simp] theorem linkA_setStaged (s : State) (scr : ScreenIx) (x : ScreenRecord) : (s.setStaged scr x).linkA = s.linkA := rfl
@[simp] theorem linkB_setStaged (s : State) (scr : ScreenIx) (x : ScreenRecord) : (s.setStaged scr x).linkB = s.linkB := rfl
@[simp] theorem pending_setStaged (s : State) (scr : ScreenIx) (x : ScreenRecord) : (s.setStaged scr x).pending = s.pending := rfl
@[simp] theorem link_setStaged (s : State) (scr : ScreenIx) (x : ScreenRecord) (k : Link) : (s.setStaged scr x).link k = s.link k := by cases k <;> rfl

/-! ### setComp -/

@[simp] theorem clock_setComp (s : State) (scr : ScreenIx) (x : Compositor) : (s.setComp scr x).clock = s.clock := rfl
@[simp] theorem rank_setComp (s : State) (scr : ScreenIx) (x : Compositor) : (s.setComp scr x).rank = s.rank := rfl
@[simp] theorem staged_setComp (s : State) (scr : ScreenIx) (x : Compositor) : (s.setComp scr x).staged = s.staged := rfl
@[simp] theorem comps_setComp (s : State) (scr : ScreenIx) (x : Compositor) : (s.setComp scr x).comps = s.comps.set scr x := rfl
@[simp] theorem pool_setComp (s : State) (scr : ScreenIx) (x : Compositor) : (s.setComp scr x).pool = s.pool := rfl
@[simp] theorem fronts_setComp (s : State) (scr : ScreenIx) (x : Compositor) : (s.setComp scr x).fronts = s.fronts := rfl
@[simp] theorem rings_setComp (s : State) (scr : ScreenIx) (x : Compositor) : (s.setComp scr x).rings = s.rings := rfl
@[simp] theorem marker_setComp (s : State) (scr : ScreenIx) (x : Compositor) : (s.setComp scr x).marker = s.marker := rfl
@[simp] theorem pins_setComp (s : State) (scr : ScreenIx) (x : Compositor) : (s.setComp scr x).pins = s.pins := rfl
@[simp] theorem holds_setComp (s : State) (scr : ScreenIx) (x : Compositor) : (s.setComp scr x).holds = s.holds := rfl
@[simp] theorem zones_setComp (s : State) (scr : ScreenIx) (x : Compositor) : (s.setComp scr x).zones = s.zones := rfl
@[simp] theorem detector_setComp (s : State) (scr : ScreenIx) (x : Compositor) : (s.setComp scr x).detector = s.detector := rfl
@[simp] theorem linkA_setComp (s : State) (scr : ScreenIx) (x : Compositor) : (s.setComp scr x).linkA = s.linkA := rfl
@[simp] theorem linkB_setComp (s : State) (scr : ScreenIx) (x : Compositor) : (s.setComp scr x).linkB = s.linkB := rfl
@[simp] theorem pending_setComp (s : State) (scr : ScreenIx) (x : Compositor) : (s.setComp scr x).pending = s.pending := rfl
@[simp] theorem link_setComp (s : State) (scr : ScreenIx) (x : Compositor) (k : Link) : (s.setComp scr x).link k = s.link k := by cases k <;> rfl

/-! ### setFront -/

@[simp] theorem clock_setFront (s : State) (i : InputIx) (x : FrontEnd) : (s.setFront i x).clock = s.clock := rfl
@[simp] theorem rank_setFront (s : State) (i : InputIx) (x : FrontEnd) : (s.setFront i x).rank = s.rank := rfl
@[simp] theorem staged_setFront (s : State) (i : InputIx) (x : FrontEnd) : (s.setFront i x).staged = s.staged := rfl
@[simp] theorem comps_setFront (s : State) (i : InputIx) (x : FrontEnd) : (s.setFront i x).comps = s.comps := rfl
@[simp] theorem pool_setFront (s : State) (i : InputIx) (x : FrontEnd) : (s.setFront i x).pool = s.pool := rfl
@[simp] theorem fronts_setFront (s : State) (i : InputIx) (x : FrontEnd) : (s.setFront i x).fronts = s.fronts.set i x := rfl
@[simp] theorem rings_setFront (s : State) (i : InputIx) (x : FrontEnd) : (s.setFront i x).rings = s.rings := rfl
@[simp] theorem marker_setFront (s : State) (i : InputIx) (x : FrontEnd) : (s.setFront i x).marker = s.marker := rfl
@[simp] theorem pins_setFront (s : State) (i : InputIx) (x : FrontEnd) : (s.setFront i x).pins = s.pins := rfl
@[simp] theorem holds_setFront (s : State) (i : InputIx) (x : FrontEnd) : (s.setFront i x).holds = s.holds := rfl
@[simp] theorem zones_setFront (s : State) (i : InputIx) (x : FrontEnd) : (s.setFront i x).zones = s.zones := rfl
@[simp] theorem detector_setFront (s : State) (i : InputIx) (x : FrontEnd) : (s.setFront i x).detector = s.detector := rfl
@[simp] theorem linkA_setFront (s : State) (i : InputIx) (x : FrontEnd) : (s.setFront i x).linkA = s.linkA := rfl
@[simp] theorem linkB_setFront (s : State) (i : InputIx) (x : FrontEnd) : (s.setFront i x).linkB = s.linkB := rfl
@[simp] theorem pending_setFront (s : State) (i : InputIx) (x : FrontEnd) : (s.setFront i x).pending = s.pending := rfl
@[simp] theorem link_setFront (s : State) (i : InputIx) (x : FrontEnd) (k : Link) : (s.setFront i x).link k = s.link k := by cases k <;> rfl

/-! ### setRing -/

@[simp] theorem clock_setRing (s : State) (i : InputIx) (x : Ring) : (s.setRing i x).clock = s.clock := rfl
@[simp] theorem rank_setRing (s : State) (i : InputIx) (x : Ring) : (s.setRing i x).rank = s.rank := rfl
@[simp] theorem staged_setRing (s : State) (i : InputIx) (x : Ring) : (s.setRing i x).staged = s.staged := rfl
@[simp] theorem comps_setRing (s : State) (i : InputIx) (x : Ring) : (s.setRing i x).comps = s.comps := rfl
@[simp] theorem pool_setRing (s : State) (i : InputIx) (x : Ring) : (s.setRing i x).pool = s.pool := rfl
@[simp] theorem fronts_setRing (s : State) (i : InputIx) (x : Ring) : (s.setRing i x).fronts = s.fronts := rfl
@[simp] theorem rings_setRing (s : State) (i : InputIx) (x : Ring) : (s.setRing i x).rings = s.rings.set i x := rfl
@[simp] theorem marker_setRing (s : State) (i : InputIx) (x : Ring) : (s.setRing i x).marker = s.marker := rfl
@[simp] theorem pins_setRing (s : State) (i : InputIx) (x : Ring) : (s.setRing i x).pins = s.pins := rfl
@[simp] theorem holds_setRing (s : State) (i : InputIx) (x : Ring) : (s.setRing i x).holds = s.holds := rfl
@[simp] theorem zones_setRing (s : State) (i : InputIx) (x : Ring) : (s.setRing i x).zones = s.zones := rfl
@[simp] theorem detector_setRing (s : State) (i : InputIx) (x : Ring) : (s.setRing i x).detector = s.detector := rfl
@[simp] theorem linkA_setRing (s : State) (i : InputIx) (x : Ring) : (s.setRing i x).linkA = s.linkA := rfl
@[simp] theorem linkB_setRing (s : State) (i : InputIx) (x : Ring) : (s.setRing i x).linkB = s.linkB := rfl
@[simp] theorem pending_setRing (s : State) (i : InputIx) (x : Ring) : (s.setRing i x).pending = s.pending := rfl
@[simp] theorem link_setRing (s : State) (i : InputIx) (x : Ring) (k : Link) : (s.setRing i x).link k = s.link k := by cases k <;> rfl

/-! ### setPool -/

@[simp] theorem clock_setPool (s : State) (x : Pool) : (s.setPool x).clock = s.clock := rfl
@[simp] theorem rank_setPool (s : State) (x : Pool) : (s.setPool x).rank = s.rank := rfl
@[simp] theorem staged_setPool (s : State) (x : Pool) : (s.setPool x).staged = s.staged := rfl
@[simp] theorem comps_setPool (s : State) (x : Pool) : (s.setPool x).comps = s.comps := rfl
@[simp] theorem pool_setPool (s : State) (x : Pool) : (s.setPool x).pool = x := rfl
@[simp] theorem fronts_setPool (s : State) (x : Pool) : (s.setPool x).fronts = s.fronts := rfl
@[simp] theorem rings_setPool (s : State) (x : Pool) : (s.setPool x).rings = s.rings := rfl
@[simp] theorem marker_setPool (s : State) (x : Pool) : (s.setPool x).marker = s.marker := rfl
@[simp] theorem pins_setPool (s : State) (x : Pool) : (s.setPool x).pins = s.pins := rfl
@[simp] theorem holds_setPool (s : State) (x : Pool) : (s.setPool x).holds = s.holds := rfl
@[simp] theorem zones_setPool (s : State) (x : Pool) : (s.setPool x).zones = s.zones := rfl
@[simp] theorem detector_setPool (s : State) (x : Pool) : (s.setPool x).detector = s.detector := rfl
@[simp] theorem linkA_setPool (s : State) (x : Pool) : (s.setPool x).linkA = s.linkA := rfl
@[simp] theorem linkB_setPool (s : State) (x : Pool) : (s.setPool x).linkB = s.linkB := rfl
@[simp] theorem pending_setPool (s : State) (x : Pool) : (s.setPool x).pending = s.pending := rfl
@[simp] theorem link_setPool (s : State) (x : Pool) (k : Link) : (s.setPool x).link k = s.link k := by cases k <;> rfl

/-! ### setPin -/

@[simp] theorem clock_setPin (s : State) (scr : ScreenIx) (x : Pin) : (s.setPin scr x).clock = s.clock := rfl
@[simp] theorem rank_setPin (s : State) (scr : ScreenIx) (x : Pin) : (s.setPin scr x).rank = s.rank := rfl
@[simp] theorem staged_setPin (s : State) (scr : ScreenIx) (x : Pin) : (s.setPin scr x).staged = s.staged := rfl
@[simp] theorem comps_setPin (s : State) (scr : ScreenIx) (x : Pin) : (s.setPin scr x).comps = s.comps := rfl
@[simp] theorem pool_setPin (s : State) (scr : ScreenIx) (x : Pin) : (s.setPin scr x).pool = s.pool := rfl
@[simp] theorem fronts_setPin (s : State) (scr : ScreenIx) (x : Pin) : (s.setPin scr x).fronts = s.fronts := rfl
@[simp] theorem rings_setPin (s : State) (scr : ScreenIx) (x : Pin) : (s.setPin scr x).rings = s.rings := rfl
@[simp] theorem marker_setPin (s : State) (scr : ScreenIx) (x : Pin) : (s.setPin scr x).marker = s.marker := rfl
@[simp] theorem pins_setPin (s : State) (scr : ScreenIx) (x : Pin) : (s.setPin scr x).pins = s.pins.set scr x := rfl
@[simp] theorem holds_setPin (s : State) (scr : ScreenIx) (x : Pin) : (s.setPin scr x).holds = s.holds := rfl
@[simp] theorem zones_setPin (s : State) (scr : ScreenIx) (x : Pin) : (s.setPin scr x).zones = s.zones := rfl
@[simp] theorem detector_setPin (s : State) (scr : ScreenIx) (x : Pin) : (s.setPin scr x).detector = s.detector := rfl
@[simp] theorem linkA_setPin (s : State) (scr : ScreenIx) (x : Pin) : (s.setPin scr x).linkA = s.linkA := rfl
@[simp] theorem linkB_setPin (s : State) (scr : ScreenIx) (x : Pin) : (s.setPin scr x).linkB = s.linkB := rfl
@[simp] theorem pending_setPin (s : State) (scr : ScreenIx) (x : Pin) : (s.setPin scr x).pending = s.pending := rfl
@[simp] theorem link_setPin (s : State) (scr : ScreenIx) (x : Pin) (k : Link) : (s.setPin scr x).link k = s.link k := by cases k <;> rfl

/-! ### setHold -/

@[simp] theorem clock_setHold (s : State) (scr : ScreenIx) (x : Hold) : (s.setHold scr x).clock = s.clock := rfl
@[simp] theorem rank_setHold (s : State) (scr : ScreenIx) (x : Hold) : (s.setHold scr x).rank = s.rank := rfl
@[simp] theorem staged_setHold (s : State) (scr : ScreenIx) (x : Hold) : (s.setHold scr x).staged = s.staged := rfl
@[simp] theorem comps_setHold (s : State) (scr : ScreenIx) (x : Hold) : (s.setHold scr x).comps = s.comps := rfl
@[simp] theorem pool_setHold (s : State) (scr : ScreenIx) (x : Hold) : (s.setHold scr x).pool = s.pool := rfl
@[simp] theorem fronts_setHold (s : State) (scr : ScreenIx) (x : Hold) : (s.setHold scr x).fronts = s.fronts := rfl
@[simp] theorem rings_setHold (s : State) (scr : ScreenIx) (x : Hold) : (s.setHold scr x).rings = s.rings := rfl
@[simp] theorem marker_setHold (s : State) (scr : ScreenIx) (x : Hold) : (s.setHold scr x).marker = s.marker := rfl
@[simp] theorem pins_setHold (s : State) (scr : ScreenIx) (x : Hold) : (s.setHold scr x).pins = s.pins := rfl
@[simp] theorem holds_setHold (s : State) (scr : ScreenIx) (x : Hold) : (s.setHold scr x).holds = s.holds.set scr x := rfl
@[simp] theorem zones_setHold (s : State) (scr : ScreenIx) (x : Hold) : (s.setHold scr x).zones = s.zones := rfl
@[simp] theorem detector_setHold (s : State) (scr : ScreenIx) (x : Hold) : (s.setHold scr x).detector = s.detector := rfl
@[simp] theorem linkA_setHold (s : State) (scr : ScreenIx) (x : Hold) : (s.setHold scr x).linkA = s.linkA := rfl
@[simp] theorem linkB_setHold (s : State) (scr : ScreenIx) (x : Hold) : (s.setHold scr x).linkB = s.linkB := rfl
@[simp] theorem pending_setHold (s : State) (scr : ScreenIx) (x : Hold) : (s.setHold scr x).pending = s.pending := rfl
@[simp] theorem link_setHold (s : State) (scr : ScreenIx) (x : Hold) (k : Link) : (s.setHold scr x).link k = s.link k := by cases k <;> rfl

/-! ### setZone -/

@[simp] theorem clock_setZone (s : State) (z : ZoneIx) (x : Zone) : (s.setZone z x).clock = s.clock := rfl
@[simp] theorem rank_setZone (s : State) (z : ZoneIx) (x : Zone) : (s.setZone z x).rank = s.rank := rfl
@[simp] theorem staged_setZone (s : State) (z : ZoneIx) (x : Zone) : (s.setZone z x).staged = s.staged := rfl
@[simp] theorem comps_setZone (s : State) (z : ZoneIx) (x : Zone) : (s.setZone z x).comps = s.comps := rfl
@[simp] theorem pool_setZone (s : State) (z : ZoneIx) (x : Zone) : (s.setZone z x).pool = s.pool := rfl
@[simp] theorem fronts_setZone (s : State) (z : ZoneIx) (x : Zone) : (s.setZone z x).fronts = s.fronts := rfl
@[simp] theorem rings_setZone (s : State) (z : ZoneIx) (x : Zone) : (s.setZone z x).rings = s.rings := rfl
@[simp] theorem marker_setZone (s : State) (z : ZoneIx) (x : Zone) : (s.setZone z x).marker = s.marker := rfl
@[simp] theorem pins_setZone (s : State) (z : ZoneIx) (x : Zone) : (s.setZone z x).pins = s.pins := rfl
@[simp] theorem holds_setZone (s : State) (z : ZoneIx) (x : Zone) : (s.setZone z x).holds = s.holds := rfl
@[simp] theorem zones_setZone (s : State) (z : ZoneIx) (x : Zone) : (s.setZone z x).zones = s.zones.set z x := rfl
@[simp] theorem detector_setZone (s : State) (z : ZoneIx) (x : Zone) : (s.setZone z x).detector = s.detector := rfl
@[simp] theorem linkA_setZone (s : State) (z : ZoneIx) (x : Zone) : (s.setZone z x).linkA = s.linkA := rfl
@[simp] theorem linkB_setZone (s : State) (z : ZoneIx) (x : Zone) : (s.setZone z x).linkB = s.linkB := rfl
@[simp] theorem pending_setZone (s : State) (z : ZoneIx) (x : Zone) : (s.setZone z x).pending = s.pending := rfl
@[simp] theorem link_setZone (s : State) (z : ZoneIx) (x : Zone) (k : Link) : (s.setZone z x).link k = s.link k := by cases k <;> rfl

/-! ### setDetector -/

@[simp] theorem clock_setDetector (s : State) (x : Detector) : (s.setDetector x).clock = s.clock := rfl
@[simp] theorem rank_setDetector (s : State) (x : Detector) : (s.setDetector x).rank = s.rank := rfl
@[simp] theorem staged_setDetector (s : State) (x : Detector) : (s.setDetector x).staged = s.staged := rfl
@[simp] theorem comps_setDetector (s : State) (x : Detector) : (s.setDetector x).comps = s.comps := rfl
@[simp] theorem pool_setDetector (s : State) (x : Detector) : (s.setDetector x).pool = s.pool := rfl
@[simp] theorem fronts_setDetector (s : State) (x : Detector) : (s.setDetector x).fronts = s.fronts := rfl
@[simp] theorem rings_setDetector (s : State) (x : Detector) : (s.setDetector x).rings = s.rings := rfl
@[simp] theorem marker_setDetector (s : State) (x : Detector) : (s.setDetector x).marker = s.marker := rfl
@[simp] theorem pins_setDetector (s : State) (x : Detector) : (s.setDetector x).pins = s.pins := rfl
@[simp] theorem holds_setDetector (s : State) (x : Detector) : (s.setDetector x).holds = s.holds := rfl
@[simp] theorem zones_setDetector (s : State) (x : Detector) : (s.setDetector x).zones = s.zones := rfl
@[simp] theorem detector_setDetector (s : State) (x : Detector) : (s.setDetector x).detector = x := rfl
@[simp] theorem linkA_setDetector (s : State) (x : Detector) : (s.setDetector x).linkA = s.linkA := rfl
@[simp] theorem linkB_setDetector (s : State) (x : Detector) : (s.setDetector x).linkB = s.linkB := rfl
@[simp] theorem pending_setDetector (s : State) (x : Detector) : (s.setDetector x).pending = s.pending := rfl
@[simp] theorem link_setDetector (s : State) (x : Detector) (k : Link) : (s.setDetector x).link k = s.link k := by cases k <;> rfl

/-! ### setMarker -/

@[simp] theorem clock_setMarker (s : State) (l : Link) : (s.setMarker l).clock = s.clock := rfl
@[simp] theorem rank_setMarker (s : State) (l : Link) : (s.setMarker l).rank = s.rank := rfl
@[simp] theorem staged_setMarker (s : State) (l : Link) : (s.setMarker l).staged = s.staged := rfl
@[simp] theorem comps_setMarker (s : State) (l : Link) : (s.setMarker l).comps = s.comps := rfl
@[simp] theorem pool_setMarker (s : State) (l : Link) : (s.setMarker l).pool = s.pool := rfl
@[simp] theorem fronts_setMarker (s : State) (l : Link) : (s.setMarker l).fronts = s.fronts := rfl
@[simp] theorem rings_setMarker (s : State) (l : Link) : (s.setMarker l).rings = s.rings := rfl
@[simp] theorem marker_setMarker (s : State) (l : Link) : (s.setMarker l).marker = l := rfl
@[simp] theorem pins_setMarker (s : State) (l : Link) : (s.setMarker l).pins = s.pins := rfl
@[simp] theorem holds_setMarker (s : State) (l : Link) : (s.setMarker l).holds = s.holds := rfl
@[simp] theorem zones_setMarker (s : State) (l : Link) : (s.setMarker l).zones = s.zones := rfl
@[simp] theorem detector_setMarker (s : State) (l : Link) : (s.setMarker l).detector = s.detector := rfl
@[simp] theorem linkA_setMarker (s : State) (l : Link) : (s.setMarker l).linkA = s.linkA := rfl
@[simp] theorem linkB_setMarker (s : State) (l : Link) : (s.setMarker l).linkB = s.linkB := rfl
@[simp] theorem pending_setMarker (s : State) (l : Link) : (s.setMarker l).pending = s.pending := rfl
@[simp] theorem link_setMarker (s : State) (l : Link) (k : Link) : (s.setMarker l).link k = s.link k := by cases k <;> rfl

/-! ### setLink -/

@[simp] theorem clock_setLink (s : State) (l : Link) (x : LinkState) : (s.setLink l x).clock = s.clock := by cases l <;> rfl
@[simp] theorem rank_setLink (s : State) (l : Link) (x : LinkState) : (s.setLink l x).rank = s.rank := by cases l <;> rfl
@[simp] theorem staged_setLink (s : State) (l : Link) (x : LinkState) : (s.setLink l x).staged = s.staged := by cases l <;> rfl
@[simp] theorem comps_setLink (s : State) (l : Link) (x : LinkState) : (s.setLink l x).comps = s.comps := by cases l <;> rfl
@[simp] theorem pool_setLink (s : State) (l : Link) (x : LinkState) : (s.setLink l x).pool = s.pool := by cases l <;> rfl
@[simp] theorem fronts_setLink (s : State) (l : Link) (x : LinkState) : (s.setLink l x).fronts = s.fronts := by cases l <;> rfl
@[simp] theorem rings_setLink (s : State) (l : Link) (x : LinkState) : (s.setLink l x).rings = s.rings := by cases l <;> rfl
@[simp] theorem marker_setLink (s : State) (l : Link) (x : LinkState) : (s.setLink l x).marker = s.marker := by cases l <;> rfl
@[simp] theorem pins_setLink (s : State) (l : Link) (x : LinkState) : (s.setLink l x).pins = s.pins := by cases l <;> rfl
@[simp] theorem holds_setLink (s : State) (l : Link) (x : LinkState) : (s.setLink l x).holds = s.holds := by cases l <;> rfl
@[simp] theorem zones_setLink (s : State) (l : Link) (x : LinkState) : (s.setLink l x).zones = s.zones := by cases l <;> rfl
@[simp] theorem detector_setLink (s : State) (l : Link) (x : LinkState) : (s.setLink l x).detector = s.detector := by cases l <;> rfl
@[simp] theorem pending_setLink (s : State) (l : Link) (x : LinkState) : (s.setLink l x).pending = s.pending := by cases l <;> rfl
@[simp] theorem linkA_setLink_a (s : State) (x : LinkState) : (s.setLink .a x).linkA = x := rfl
@[simp] theorem linkA_setLink_b (s : State) (x : LinkState) : (s.setLink .b x).linkA = s.linkA := rfl
@[simp] theorem linkB_setLink_a (s : State) (x : LinkState) : (s.setLink .a x).linkB = s.linkB := rfl
@[simp] theorem linkB_setLink_b (s : State) (x : LinkState) : (s.setLink .b x).linkB = x := rfl
@[simp] theorem link_a (s : State) : s.link .a = s.linkA := rfl
@[simp] theorem link_b (s : State) : s.link .b = s.linkB := rfl

@[simp] theorem link_setLink_self (s : State) (l : Link) (x : LinkState) : (s.setLink l x).link l = x := by cases l <;> rfl

theorem link_setLink_of_ne (s : State) {l k : Link} (x : LinkState) (h : l ≠ k) : (s.setLink l x).link k = s.link k := by
  cases l <;> cases k <;> first | rfl | exact absurd rfl h

theorem link_setLink (s : State) (l k : Link) (x : LinkState) :
    (s.setLink l x).link k = if l = k then x else s.link k := by
  cases l <;> cases k <;> rfl

@[simp] theorem link_setLink_other (s : State) (l : Link) (x : LinkState) :
    (s.setLink l x).link l.other = s.link l.other := by cases l <;> rfl

@[simp] theorem setLink_self (s : State) (l : Link) : s.setLink l (s.link l) = s := by cases l <;> rfl

@[simp] theorem setLink_setLink (s : State) (l : Link) (x y : LinkState) : (s.setLink l x).setLink l y = s.setLink l y := by
  cases l <;> rfl

theorem modLink_eq (s : State) (l : Link) (g : LinkState → LinkState) : s.modLink l g = s.setLink l (g (s.link l)) := rfl
theorem modComp_eq (s : State) (l : ScreenIx) (g : Compositor → Compositor) : s.modComp l g = s.setComp l (g (s.comps.get l)) := rfl
theorem modFront_eq (s : State) (l : InputIx) (g : FrontEnd → FrontEnd) : s.modFront l g = s.setFront l (g (s.fronts.get l)) := rfl
theorem modRing_eq (s : State) (l : InputIx) (g : Ring → Ring) : s.modRing l g = s.setRing l (g (s.rings.get l)) := rfl

@[simp] theorem link_modLink_self (s : State) (l : Link) (g : LinkState → LinkState) : (s.modLink l g).link l = g (s.link l) := by
  cases l <;> rfl

@[simp] theorem link_modLink_other (s : State) (l : Link) (g : LinkState → LinkState) :
    (s.modLink l g).link l.other = s.link l.other := by cases l <;> rfl

theorem link_modLink (s : State) (l k : Link) (g : LinkState → LinkState) :
    (s.modLink l g).link k = if l = k then g (s.link k) else s.link k := by
  cases l <;> cases k <;> rfl

@[simp] theorem clock_modLink (s : State) (l : Link) (g : LinkState → LinkState) : (s.modLink l g).clock = s.clock := by cases l <;> rfl
@[simp] theorem rank_modLink (s : State) (l : Link) (g : LinkState → LinkState) : (s.modLink l g).rank = s.rank := by cases l <;> rfl
@[simp] theorem staged_modLink (s : State) (l : Link) (g : LinkState → LinkState) : (s.modLink l g).staged = s.staged := by cases l <;> rfl
@[simp] theorem comps_modLink (s : State) (l : Link) (g : LinkState → LinkState) : (s.modLink l g).comps = s.comps := by cases l <;> rfl
@[simp] theorem pool_modLink (s : State) (l : Link) (g : LinkState → LinkState) : (s.modLink l g).pool = s.pool := by cases l <;> rfl
@[simp] theorem fronts_modLink (s : State) (l : Link) (g : LinkState → LinkState) : (s.modLink l g).fronts = s.fronts := by cases l <;> rfl
@[simp] theorem rings_modLink (s : State) (l : Link) (g : LinkState → LinkState) : (s.modLink l g).rings = s.rings := by cases l <;> rfl
@[simp] theorem marker_modLink (s : State) (l : Link) (g : LinkState → LinkState) : (s.modLink l g).marker = s.marker := by cases l <;> rfl
@[simp] theorem pins_modLink (s : State) (l : Link) (g : LinkState → LinkState) : (s.modLink l g).pins = s.pins := by cases l <;> rfl
@[simp] theorem holds_modLink (s : State) (l : Link) (g : LinkState → LinkState) : (s.modLink l g).holds = s.holds := by cases l <;> rfl
@[simp] theorem zones_modLink (s : State) (l : Link) (g : LinkState → LinkState) : (s.modLink l g).zones = s.zones := by cases l <;> rfl
@[simp] theorem detector_modLink (s : State) (l : Link) (g : LinkState → LinkState) : (s.modLink l g).detector = s.detector := by cases l <;> rfl
@[simp] theorem pending_modLink (s : State) (l : Link) (g : LinkState → LinkState) : (s.modLink l g).pending = s.pending := by cases l <;> rfl
@[simp] theorem clock_modComp (s : State) (scr : ScreenIx) (g : Compositor → Compositor) : (s.modComp scr g).clock = s.clock := rfl
@[simp] theorem rank_modComp (s : State) (scr : ScreenIx) (g : Compositor → Compositor) : (s.modComp scr g).rank = s.rank := rfl
@[simp] theorem staged_modComp (s : State) (scr : ScreenIx) (g : Compositor → Compositor) : (s.modComp scr g).staged = s.staged := rfl
@[simp] theorem comps_modComp (s : State) (scr : ScreenIx) (g : Compositor → Compositor) : (s.modComp scr g).comps = s.comps.set scr (g (s.comps.get scr)) := rfl
@[simp] theorem pool_modComp (s : State) (scr : ScreenIx) (g : Compositor → Compositor) : (s.modComp scr g).pool = s.pool := rfl
@[simp] theorem fronts_modComp (s : State) (scr : ScreenIx) (g : Compositor → Compositor) : (s.modComp scr g).fronts = s.fronts := rfl
@[simp] theorem rings_modComp (s : State) (scr : ScreenIx) (g : Compositor → Compositor) : (s.modComp scr g).rings = s.rings := rfl
@[simp] theorem marker_modComp (s : State) (scr : ScreenIx) (g : Compositor → Compositor) : (s.modComp scr g).marker = s.marker := rfl
@[simp] theorem pins_modComp (s : State) (scr : ScreenIx) (g : Compositor → Compositor) : (s.modComp scr g).pins = s.pins := rfl
@[simp] theorem holds_modComp (s : State) (scr : ScreenIx) (g : Compositor → Compositor) : (s.modComp scr g).holds = s.holds := rfl
@[simp] theorem zones_modComp (s : State) (scr : ScreenIx) (g : Compositor → Compositor) : (s.modComp scr g).zones = s.zones := rfl
@[simp] theorem detector_modComp (s : State) (scr : ScreenIx) (g : Compositor → Compositor) : (s.modComp scr g).detector = s.detector := rfl
@[simp] theorem linkA_modComp (s : State) (scr : ScreenIx) (g : Compositor → Compositor) : (s.modComp scr g).linkA = s.linkA := rfl
@[simp] theorem linkB_modComp (s : State) (scr : ScreenIx) (g : Compositor → Compositor) : (s.modComp scr g).linkB = s.linkB := rfl
@[simp] theorem pending_modComp (s : State) (scr : ScreenIx) (g : Compositor → Compositor) : (s.modComp scr g).pending = s.pending := rfl
@[simp] theorem link_modComp (s : State) (scr : ScreenIx) (g : Compositor → Compositor) (k : Link) : (s.modComp scr g).link k = s.link k := by cases k <;> rfl
@[simp] theorem clock_modFront (s : State) (scr : InputIx) (g : FrontEnd → FrontEnd) : (s.modFront scr g).clock = s.clock := rfl
@[simp] theorem rank_modFront (s : State) (scr : InputIx) (g : FrontEnd → FrontEnd) : (s.modFront scr g).rank = s.rank := rfl
@[simp] theorem staged_modFront (s : State) (scr : InputIx) (g : FrontEnd → FrontEnd) : (s.modFront scr g).staged = s.staged := rfl
@[simp] theorem comps_modFront (s : State) (scr : InputIx) (g : FrontEnd → FrontEnd) : (s.modFront scr g).comps = s.comps := rfl
@[simp] theorem pool_modFront (s : State) (scr : InputIx) (g : FrontEnd → FrontEnd) : (s.modFront scr g).pool = s.pool := rfl
@[simp] theorem fronts_modFront (s : State) (scr : InputIx) (g : FrontEnd → FrontEnd) : (s.modFront scr g).fronts = s.fronts.set scr (g (s.fronts.get scr)) := rfl
@[simp] theorem rings_modFront (s : State) (scr : InputIx) (g : FrontEnd → FrontEnd) : (s.modFront scr g).rings = s.rings := rfl
@[simp] theorem marker_modFront (s : State) (scr : InputIx) (g : FrontEnd → FrontEnd) : (s.modFront scr g).marker = s.marker := rfl
@[simp] theorem pins_modFront (s : State) (scr : InputIx) (g : FrontEnd → FrontEnd) : (s.modFront scr g).pins = s.pins := rfl
@[simp] theorem holds_modFront (s : State) (scr : InputIx) (g : FrontEnd → FrontEnd) : (s.modFront scr g).holds = s.holds := rfl
@[simp] theorem zones_modFront (s : State) (scr : InputIx) (g : FrontEnd → FrontEnd) : (s.modFront scr g).zones = s.zones := rfl
@[simp] theorem detector_modFront (s : State) (scr : InputIx) (g : FrontEnd → FrontEnd) : (s.modFront scr g).detector = s.detector := rfl
@[simp] theorem linkA_modFront (s : State) (scr : InputIx) (g : FrontEnd → FrontEnd) : (s.modFront scr g).linkA = s.linkA := rfl
@[simp] theorem linkB_modFront (s : State) (scr : InputIx) (g : FrontEnd → FrontEnd) : (s.modFront scr g).linkB = s.linkB := rfl
@[simp] theorem pending_modFront (s : State) (scr : InputIx) (g : FrontEnd → FrontEnd) : (s.modFront scr g).pending = s.pending := rfl
@[simp] theorem link_modFront (s : State) (scr : InputIx) (g : FrontEnd → FrontEnd) (k : Link) : (s.modFront scr g).link k = s.link k := by cases k <;> rfl
@[simp] theorem clock_modRing (s : State) (scr : InputIx) (g : Ring → Ring) : (s.modRing scr g).clock = s.clock := rfl
@[simp] theorem rank_modRing (s : State) (scr : InputIx) (g : Ring → Ring) : (s.modRing scr g).rank = s.rank := rfl
@[simp] theorem staged_modRing (s : State) (scr : InputIx) (g : Ring → Ring) : (s.modRing scr g).staged = s.staged := rfl
@[simp] theorem comps_modRing (s : State) (scr : InputIx) (g : Ring → Ring) : (s.modRing scr g).comps = s.comps := rfl
@[simp] theorem pool_modRing (s : State) (scr : InputIx) (g : Ring → Ring) : (s.modRing scr g).pool = s.pool := rfl
@[simp] theorem fronts_modRing (s : State) (scr : InputIx) (g : Ring → Ring) : (s.modRing scr g).fronts = s.fronts := rfl
@[simp] theorem rings_modRing (s : State) (scr : InputIx) (g : Ring → Ring) : (s.modRing scr g).rings = s.rings.set scr (g (s.rings.get scr)) := rfl
@[simp] theorem marker_modRing (s : State) (scr : InputIx) (g : Ring → Ring) : (s.modRing scr g).marker = s.marker := rfl
@[simp] theorem pins_modRing (s : State) (scr : InputIx) (g : Ring → Ring) : (s.modRing scr g).pins = s.pins := rfl
@[simp] theorem holds_modRing (s : State) (scr : InputIx) (g : Ring → Ring) : (s.modRing scr g).holds = s.holds := rfl
@[simp] theorem zones_modRing (s : State) (scr : InputIx) (g : Ring → Ring) : (s.modRing scr g).zones = s.zones := rfl
@[simp] theorem detector_modRing (s : State) (scr : InputIx) (g : Ring → Ring) : (s.modRing scr g).detector = s.detector := rfl
@[simp] theorem linkA_modRing (s : State) (scr : InputIx) (g : Ring → Ring) : (s.modRing scr g).linkA = s.linkA := rfl
@[simp] theorem linkB_modRing (s : State) (scr : InputIx) (g : Ring → Ring) : (s.modRing scr g).linkB = s.linkB := rfl
@[simp] theorem pending_modRing (s : State) (scr : InputIx) (g : Ring → Ring) : (s.modRing scr g).pending = s.pending := rfl
@[simp] theorem link_modRing (s : State) (scr : InputIx) (g : Ring → Ring) (k : Link) : (s.modRing scr g).link k = s.link k := by cases k <;> rfl

/-! ### Plans -/

@[simp] theorem clock_setPlan (s : State) (w : WallWindow) (q : Plan) : (s.setPlan w q).clock = s.clock := rfl
@[simp] theorem rank_setPlan (s : State) (w : WallWindow) (q : Plan) : (s.setPlan w q).rank = s.rank := rfl
@[simp] theorem staged_setPlan (s : State) (w : WallWindow) (q : Plan) : (s.setPlan w q).staged = s.staged := rfl
@[simp] theorem pool_setPlan (s : State) (w : WallWindow) (q : Plan) : (s.setPlan w q).pool = s.pool := rfl
@[simp] theorem fronts_setPlan (s : State) (w : WallWindow) (q : Plan) : (s.setPlan w q).fronts = s.fronts := rfl
@[simp] theorem rings_setPlan (s : State) (w : WallWindow) (q : Plan) : (s.setPlan w q).rings = s.rings := rfl
@[simp] theorem marker_setPlan (s : State) (w : WallWindow) (q : Plan) : (s.setPlan w q).marker = s.marker := rfl
@[simp] theorem pins_setPlan (s : State) (w : WallWindow) (q : Plan) : (s.setPlan w q).pins = s.pins := rfl
@[simp] theorem holds_setPlan (s : State) (w : WallWindow) (q : Plan) : (s.setPlan w q).holds = s.holds := rfl
@[simp] theorem zones_setPlan (s : State) (w : WallWindow) (q : Plan) : (s.setPlan w q).zones = s.zones := rfl
@[simp] theorem detector_setPlan (s : State) (w : WallWindow) (q : Plan) : (s.setPlan w q).detector = s.detector := rfl
@[simp] theorem linkA_setPlan (s : State) (w : WallWindow) (q : Plan) : (s.setPlan w q).linkA = s.linkA := rfl
@[simp] theorem linkB_setPlan (s : State) (w : WallWindow) (q : Plan) : (s.setPlan w q).linkB = s.linkB := rfl
@[simp] theorem pending_setPlan (s : State) (w : WallWindow) (q : Plan) : (s.setPlan w q).pending = s.pending := rfl
@[simp] theorem link_setPlan (s : State) (w : WallWindow) (q : Plan) (k : Link) : (s.setPlan w q).link k = s.link k := by
  cases k <;> rfl

theorem screenOf_windowOf_inj {v w : WallWindow} (h1 : screenOf v = screenOf w) (h2 : windowOf v = windowOf w) : v = w := by
  have a : v.val / 4 = w.val / 4 := congrArg Fin.val h1
  have b : v.val % 4 = w.val % 4 := congrArg Fin.val h2
  apply Fin.ext
  omega

@[simp] theorem screenOf_wallWindow (scr : ScreenIx) (k : WindowIx) : screenOf (wallWindow scr k) = scr := by
  apply Fin.ext
  simp only [screenOf, wallWindow]
  omega

@[simp] theorem windowOf_wallWindow (scr : ScreenIx) (k : WindowIx) : windowOf (wallWindow scr k) = k := by
  apply Fin.ext
  simp only [windowOf, wallWindow]
  omega

@[simp] theorem wallWindow_of (w : WallWindow) : wallWindow (screenOf w) (windowOf w) = w :=
  screenOf_windowOf_inj (screenOf_wallWindow _ _) (windowOf_wallWindow _ _)

@[simp] theorem plan_setPlan_self (s : State) (w : WallWindow) (q : Plan) : (s.setPlan w q).plan w = q := by
  simp [State.plan, State.setPlan]

theorem plan_setPlan_of_ne (s : State) {w v : WallWindow} (q : Plan) (h : w ≠ v) : (s.setPlan w q).plan v = s.plan v := by
  simp only [State.plan, State.setPlan, comps_modComp, Table.get_set]
  split
  · next hs =>
    have hw : windowOf w ≠ windowOf v := fun e => h (screenOf_windowOf_inj hs e)
    simp [Table.get_set_of_ne _ _ hw, hs]
  · rfl

end Sys2Proof.Machine.State
end

