-- ==== Sys2Proof/Laws/Events.lean ====
section
/-! SUPPORT. What raising an event can do: it changes the event state of the links and nothing else. -/

namespace Sys2Proof.Machine

/-- `t` is `s` but for the event states of the two links. -/
def OnlyEvents (s t : State) : Prop :=
  t = { s with linkA := { s.linkA with events := t.linkA.events }, linkB := { s.linkB with events := t.linkB.events } }

theorem OnlyEvents.refl (s : State) : OnlyEvents s s := rfl

theorem OnlyEvents.trans {s t u : State} (h : OnlyEvents s t) (k : OnlyEvents t u) : OnlyEvents s u := by
  unfold OnlyEvents at h k ⊢
  rw [k, h]

theorem OnlyEvents.raise (s : State) (l : Link) (k : EventKind) (index : Option Nat) : OnlyEvents s (s.raise l k index) := by
  cases l <;> rfl

theorem OnlyEvents.raiseBoth (s : State) (k : EventKind) (index : Option Nat) : OnlyEvents s (s.raiseBoth k index) :=
  (OnlyEvents.raise s .a k index).trans (OnlyEvents.raise _ .b k index)

theorem OnlyEvents.raiseInputState (s : State) (i : InputIx) (now : MonitorState) : OnlyEvents s (s.raiseInputState i now) := by
  have one (t : State) (l : Link) : OnlyEvents t (t.raiseInputStateOn l i now) := by
    unfold State.raiseInputStateOn
    split
    · exact OnlyEvents.raise _ _ _ _
    · exact OnlyEvents.refl _
  exact (one s .a).trans (one _ .b)

theorem OnlyEvents.raiseCheckSync (s : State) (i : InputIx) (loss : Bool) : OnlyEvents s (s.raiseCheckSync i loss) := by
  have one (t : State) (l : Link) : OnlyEvents t (t.raiseCheckSyncOn l i loss) := by
    unfold State.raiseCheckSyncOn
    split
    · exact OnlyEvents.raise _ _ _ _
    · exact OnlyEvents.refl _
  exact (one s .a).trans (one _ .b)

theorem OnlyEvents.raiseAnnounce (s : State) (start : Bool) : OnlyEvents s (s.raiseAnnounce start) := by
  have one (t : State) (l : Link) : OnlyEvents t (t.raiseAnnounceOn l start) := by
    unfold State.raiseAnnounceOn
    split
    · exact OnlyEvents.raise _ _ _ _
    · exact OnlyEvents.refl _
  exact (one s .a).trans (one _ .b)

/-- What every step of a walk over a list keeps, the walk keeps. -/
theorem OnlyEvents.foldl {α : Type} {f : State → α → State} (h : ∀ s a, OnlyEvents s (f s a)) (xs : List α) (s : State) :
    OnlyEvents s (xs.foldl f s) := by
  induction xs generalizing s with
  | nil => exact OnlyEvents.refl s
  | cons a xs ih => exact (h s a).trans (ih _)

section Fields
variable {s t : State} (h : OnlyEvents s t)
include h

theorem OnlyEvents.clock : t.clock = s.clock := by rw [h]
theorem OnlyEvents.rank : t.rank = s.rank := by rw [h]
theorem OnlyEvents.staged : t.staged = s.staged := by rw [h]
theorem OnlyEvents.comps : t.comps = s.comps := by rw [h]
theorem OnlyEvents.pool : t.pool = s.pool := by rw [h]
theorem OnlyEvents.fronts : t.fronts = s.fronts := by rw [h]
theorem OnlyEvents.rings : t.rings = s.rings := by rw [h]
theorem OnlyEvents.marker : t.marker = s.marker := by rw [h]
theorem OnlyEvents.pins : t.pins = s.pins := by rw [h]
theorem OnlyEvents.holds : t.holds = s.holds := by rw [h]
theorem OnlyEvents.zones : t.zones = s.zones := by rw [h]
theorem OnlyEvents.detector : t.detector = s.detector := by rw [h]
theorem OnlyEvents.pending : t.pending = s.pending := by rw [h]

/-- All of a link but its event state. -/
theorem OnlyEvents.link (l : Link) : t.link l = { s.link l with events := (t.link l).events } := by
  cases l
  · exact congrArg State.linkA h
  · exact congrArg State.linkB h

end Fields

/-- A raise that the edge mode lets through sets the latch of its kind (R172). -/
theorem latch_set (e : EventState) (k : EventKind) (index : Option Nat) : (e.latch k index).latches.get k.ix = true := by
  simp [EventState.latch]

/-- A raise leaves the latches of the other kinds (R172). -/
theorem latch_other (e : EventState) {k j : EventKind} (index : Option Nat) (h : k.ix ≠ j.ix) :
    (e.latch k index).latches.get j.ix = e.latches.get j.ix := by
  simp [EventState.latch, Table.get_set_of_ne _ _ h]

/-- A raise leaves the enables (R172). -/
@[simp] theorem enables_latch (e : EventState) (k : EventKind) (index : Option Nat) : (e.latch k index).enables = e.enables := rfl

/-- With every latch clear the attention line is released (R175, R176). -/
theorem attention_clearLatches (e : EventState) : e.clearLatches.attention = false := by
  simp [EventState.attention, EventState.clearLatches]

end Sys2Proof.Machine
end

