-- ==== Sys2Proof/Laws/Audio.lean ====
section
/-! SUPPORT. What the saturation stage and one zone's sample can do. -/

namespace Sys2Proof.Machine

theorem saturate_range (y : Int) : -8388608 ≤ saturate y ∧ saturate y ≤ 8388607 := by
  simp only [saturate, Config.sampleMin, Config.sampleMax]
  omega

theorem saturate_inside (y : Int) (h1 : -8388608 ≤ y) (h2 : y ≤ 8388607) : saturate y = y := by
  simp only [saturate, Config.sampleMin, Config.sampleMax]
  omega

/-- A zone's sample changes its own zone and the links' event states alone (R144 to R146). -/
theorem sampleZone_frame (an : Sample) (s : State) (k : ZoneIx) :
    ∃ z, OnlyEvents (s.setZone k z) (s.sampleZone an k) := by
  have one (t : State) (z : Zone) (y : Int × Int) :
      OnlyEvents t (if z.raises y then t.raiseBoth .audioClip (some k.val) else t) := by
    split
    · exact OnlyEvents.raiseBoth _ _ _
    · exact OnlyEvents.refl _
  exact ⟨_, one _ _ _⟩

end Sys2Proof.Machine
end

