-- ==== Sys2Proof/Laws/FrameStore.lean ====
section
/-! SUPPORT. What the operations of a ring can do to its slots (R103 to R107). -/

namespace Sys2Proof.Machine

/-- Freeing touches the slot named alone, and only when it is unread and not newest-ready. -/
theorem freeIfUnread_slot (r : Ring) (n m : SlotIx) :
    (r.freeIfUnread n).slots.get m = if n = m ∧ (r.slots.get n).readers = 0 ∧ r.newest ≠ some n then Slot.free else r.slots.get m := by
  unfold Ring.freeIfUnread
  by_cases h : (r.slots.get n).readers = 0 ∧ r.newest ≠ some n
  · by_cases e : n = m
    · subst e
      simp [h]
    · simp [h, e, Table.get_set_of_ne _ _ e]
  · have h' : ¬ (n = m ∧ (r.slots.get n).readers = 0 ∧ r.newest ≠ some n) := fun k => h k.2
    rw [if_neg h, if_neg h']

@[simp] theorem newest_freeIfUnread (r : Ring) (n : SlotIx) : (r.freeIfUnread n).newest = r.newest := by
  unfold Ring.freeIfUnread
  split <;> rfl

@[simp] theorem newest_fill (r : Ring) (n : SlotIx) (seq : Nat) : (r.fill n seq).newest = r.newest := rfl
@[simp] theorem newest_writeLine (r : Ring) (n : SlotIx) (line : List Colour) : (r.writeLine n line).newest = r.newest := rfl
@[simp] theorem newest_abandon (r : Ring) (n : SlotIx) : (r.abandon n).newest = r.newest := rfl
@[simp] theorem newest_take (r : Ring) (n : SlotIx) : (r.take n).newest = r.newest := rfl
@[simp] theorem newest_giveUp (r : Ring) (n : SlotIx) : (r.giveUp n).newest = r.newest := by simp [Ring.giveUp]

/-- A publication makes its slot newest-ready (R104). -/
@[simp] theorem newest_publish (r : Ring) (n : SlotIx) (w h : Nat) : (r.publish n w h).newest = some n := by
  unfold Ring.publish
  simp only
  split <;> simp

theorem slot_fill_of_ne (r : Ring) {n m : SlotIx} (seq : Nat) (h : n ≠ m) : (r.fill n seq).slots.get m = r.slots.get m :=
  Table.get_set_of_ne _ _ h

theorem slot_abandon_of_ne (r : Ring) {n m : SlotIx} (h : n ≠ m) : (r.abandon n).slots.get m = r.slots.get m :=
  Table.get_set_of_ne _ _ h

theorem slot_writeLine_of_ne (r : Ring) {n m : SlotIx} (line : List Colour) (h : n ≠ m) :
    (r.writeLine n line).slots.get m = r.slots.get m := Table.get_modify_of_ne _ _ h

theorem slot_take_of_ne (r : Ring) {n m : SlotIx} (h : n ≠ m) : (r.take n).slots.get m = r.slots.get m :=
  Table.get_modify_of_ne _ _ h

/-- A slot asked for was FREE (R103). -/
theorem freeSlot_free {r : Ring} {n : SlotIx} (h : r.freeSlot = some n) : (r.slots.get n).state = .free := by
  have := List.find?_some h
  simpa using this

end Sys2Proof.Machine
end

