-- ==== Sys2Proof/Laws/Pool.lean ====
section
/-! SUPPORT. What a grant opportunity can do: it changes the pool, and at most one plan's service and scaler (R44, R47). -/

namespace Sys2Proof.Machine

/-- `t` is `s` but for the pool and for service and scaler of the Live plan of one window, or of none. -/
def OnlyGrant (s t : State) : Prop :=
  t = { s with pool := t.pool } ∨
    ∃ w n, t = { s with pool := t.pool, comps := t.comps } ∧ t.plan w = { s.plan w with service := .granted, scaler := some n } ∧
      ∀ v, w ≠ v → t.plan v = s.plan v

theorem grant_frame (s : State) (p : Pool) (n : ScalerIx) (w : WallWindow) : OnlyGrant s ((s.setPool p).grant n w) := by
  refine Or.inr ⟨w, n, rfl, ?_, fun v h => ?_⟩
  · simp only [State.grant, State.plan_setPlan_self]
    rfl
  · simp only [State.grant, State.plan_setPlan_of_ne _ _ h]
    rfl

/-- Whatever arbitration decides, it touches nothing but the pool and the plan of the window it grants to. -/
theorem offer_frame (s : State) (n : ScalerIx) : OnlyGrant s (s.offer n) := by
  have setPool_self : s.setPool s.pool = s := rfl
  unfold State.offer
  split
  · simpa only [setPool_self] using grant_frame s s.pool n _
  · split
    · have h := grant_frame s s.pool n (by assumption)
      rw [setPool_self] at h
      rcases h with h | ⟨w, m, h1, h2, h3⟩
      · exact Or.inl (by
          conv_lhs => rw [State.captureFeature]
          rw [h]
          rfl)
      · exact Or.inr ⟨w, m, by
          conv_lhs => rw [State.captureFeature]
          rw [h1]
          rfl, h2, h3⟩
    · simp only
      split
      · exact grant_frame s _ n _
      · split
        · exact grant_frame s _ n _
        · exact Or.inl rfl

end Sys2Proof.Machine
end

