-- ==== Sys2Proof/Laws/Compositor.lean ====
section
/-! SUPPORT. What the entry to STANDBY and the slot stage can do (R11, R53, R65, R66). -/

namespace Sys2Proof.Machine

/-- A window without a scaler is passed over. -/
theorem standbyRelease_of_none (s : State) (scr : ScreenIx) (k : WindowIx) (h : (s.plan (wallWindow scr k)).scaler = none) :
    s.standbyRelease scr k = s := by
  simp [State.standbyRelease, h]

/-- A window with a scaler gives it up, and the scaler is offered at once. -/
theorem standbyRelease_of_some (s : State) (scr : ScreenIx) (k : WindowIx) (n : ScalerIx)
    (h : (s.plan (wallWindow scr k)).scaler = some n) :
    s.standbyRelease scr k =
      (s.setPlan (wallWindow scr k) { s.plan (wallWindow scr k) with service := .offscreen, scaler := none }).offer n := by
  simp [State.standbyRelease, State.giveScaler, h]

section Sleep
variable (q : Plan) (r : Rect)

theorem sleep_of_none (h : q.source = none) : q.sleep r = .off := by simp [Plan.sleep, h]

/-- The plan of a sleeping window with a source. -/
theorem sleep_of_source (h : q.source ≠ none) :
    q.sleep r = { q.placeOffscreen r with service := .offscreen, slot := none, scaler := none } := by
  obtain ⟨i, hi⟩ := Option.ne_none_iff_exists'.mp h
  simp [Plan.sleep, hi]

@[simp] theorem slot_sleep : (q.sleep r).slot = none := by unfold Plan.sleep; split <;> rfl
@[simp] theorem scaler_sleep : (q.sleep r).scaler = none := by unfold Plan.sleep; split <;> rfl
@[simp] theorem source_sleep : (q.sleep r).source = q.source := by
  unfold Plan.sleep
  split
  · next h => exact h.symm
  · rfl

end Sleep

section Fields
variable (c : Compositor)

@[simp] theorem live_sleep : c.sleep.live = c.live := rfl
@[simp] theorem run_sleep : c.sleep.run = .standby := rfl
@[simp] theorem timing_sleep : c.sleep.timing = .stopped := rfl
@[simp] theorem shown_sleep : c.sleep.shown = c.shown := rfl
@[simp] theorem plan_sleep (k : WindowIx) : c.sleep.plans.get k = (c.plans.get k).sleep (c.live.window k).rect := by
  simp [Compositor.sleep]

end Fields

/-! ## The slot stage (R19, R65, R106) -/

/-- The slot a window is to read: the newest-ready one of its source, where it is drawn and shown as picture (R19, R65). -/
theorem slotFor_eq_some (s : State) (scr : ScreenIx) (k : WindowIx) (i : InputIx) (n : SlotIx) :
    s.slotFor scr k = some (i, n) ↔
      ((s.comps.get scr).plans.get k).source = some i ∧ (s.comps.get scr).shown.get k = .picture ∧
        ((s.comps.get scr).plans.get k).service.reads = true ∧ (s.rings.get i).newest = some n := by
  simp only [State.slotFor]
  split
  · rename_i j hj hp
    by_cases hr : ((s.comps.get scr).plans.get k).service.reads = true
    · simp only [hr, if_true, hj, hp, true_and, Option.map_eq_some_iff, Prod.mk.injEq, Option.some.injEq]
      constructor
      · rintro ⟨m, hm, rfl, rfl⟩
        exact ⟨rfl, hm⟩
      · rintro ⟨rfl, hn⟩
        exact ⟨n, hn, rfl, rfl⟩
    · simp [hr]
  · rename_i h
    simp only [reduceCtorEq, false_iff]
    rintro ⟨h1, h2, -⟩
    exact h i h1 h2

/-- A window with a slot to read takes it, and its readers rise. -/
theorem takeSlot_of_some (s : State) {scr : ScreenIx} {k : WindowIx} {i : InputIx} {n : SlotIx}
    (h : s.slotFor scr k = some (i, n)) :
    s.takeSlot scr k =
      { s with
        comps := s.comps.set scr { s.comps.get scr with
          plans := (s.comps.get scr).plans.modify k fun q => { q with slot := some n } }
        rings := s.rings.modify i fun r => r.take n } := by
  unfold State.takeSlot
  rw [h]
  rfl

/-- Any other window reads none. -/
theorem takeSlot_of_none (s : State) {scr : ScreenIx} {k : WindowIx} (h : s.slotFor scr k = none) :
    s.takeSlot scr k =
      { s with
        comps := s.comps.set scr { s.comps.get scr with
          plans := (s.comps.get scr).plans.modify k fun q => { q with slot := none } } } := by
  unfold State.takeSlot
  rw [h]
  rfl

end Sys2Proof.Machine
end

