-- ==== Sys2Proof/Laws/Editor.lean ====
section
/-! SUPPORT. What the gate, a refusal and the taking of an edit can do (R117, R118, R122, R125). -/

namespace Sys2Proof.Machine

theorem other_ne (l : Link) : l ≠ l.other := by cases l <;> decide

@[simp] theorem other_other (l : Link) : l.other.other = l := by cases l <;> rfl

/-- The taking of an edit changes its own link's queue and barrier, and the marker. -/
theorem takeEdit_eq (s : State) (l : Link) :
    s.takeEdit l =
      { s.setLink l { s.link l with edits := (s.link l).edits.tail, barrier := (s.link l).barrier.map (· - 1) } with marker := l } :=
  rfl

/-- The gate reads pins, holds and rank alone. -/
theorem gate_congr {s t : State} (hp : t.pins = s.pins) (hh : t.holds = s.holds) (hr : t.rank = s.rank) (l : Link)
    (scr : ScreenIx) (hold : Bool) : t.gate l scr hold = s.gate l scr hold := by
  simp [State.gate, State.pinStops, hp, hh, hr]

@[simp] theorem gate_takeEdit (s : State) (k l : Link) (scr : ScreenIx) (hold : Bool) :
    (s.takeEdit k).gate l scr hold = s.gate l scr hold :=
  gate_congr (by simp [State.takeEdit]) (by simp [State.takeEdit]) (by simp [State.takeEdit]) l scr hold

/-- A refusal touches the refused link alone. -/
theorem refuse_frame (s : State) (l : Link) (kind : EditKind) (screens : List ScreenIx) (reason : RefusalReason) :
    s.refuse l kind screens reason = s.setLink l ((s.refuse l kind screens reason).link l) := by
  cases screens with
  | nil => simp [State.refuse]
  | cons scr rest => cases l <;> rfl

/-- A screen edit that the gate refuses does what a refusal does and nothing else. -/
theorem screenEdit_refused (s : State) (l : Link) (kind : EditKind) (hold : Bool) (scr : ScreenIx)
    (write : ScreenRecord → ScreenRecord) (reason : RefusalReason) (h : s.gate l scr hold = some reason) :
    s.screenEdit l kind hold scr write = s.refuse l kind [scr] reason := by
  simp [State.screenEdit, h]

/-- An edit that keeps the standby flag wakes nothing. -/
theorem writeStaged_same_standby (s : State) (scr : ScreenIx) (r : ScreenRecord)
    (h : r.settings.standby = (s.staged.get scr).settings.standby) : s.writeStaged scr r = s.setStaged scr r := by
  unfold State.writeStaged
  simp only
  split
  · next c =>
    rw [h, c.1] at c
    simp at c
  · rfl

end Sys2Proof.Machine
end

