-- ==== Sys2Proof/Laws/Inputs.lean ====
section
/-! SUPPORT. What the events of input front ends can do: they change front ends and rings of their own inputs and the event states of the links. -/

namespace Sys2Proof.Machine

/-- `t` is `s` but for the front ends and rings of the inputs of a set and the event states of the two links. -/
def OnlyInputs (P : InputIx → Prop) (s t : State) : Prop :=
  OnlyEvents { s with fronts := t.fronts, rings := t.rings } t ∧
    ∀ j, ¬ P j → t.fronts.get j = s.fronts.get j ∧ t.rings.get j = s.rings.get j

namespace OnlyInputs

variable {P Q : InputIx → Prop}

theorem refl (s : State) : OnlyInputs P s s := ⟨OnlyEvents.refl s, fun _ _ => ⟨rfl, rfl⟩⟩

theorem trans {s t u : State} (h : OnlyInputs P s t) (k : OnlyInputs P t u) : OnlyInputs P s u := by
  refine ⟨?_, fun j hj => ⟨(k.2 j hj).1.trans (h.2 j hj).1, (k.2 j hj).2.trans (h.2 j hj).2⟩⟩
  have h1 := h.1
  have k1 := k.1
  unfold OnlyEvents at h1 k1 ⊢
  rw [k1, h1]

theorem mono {s t : State} (h : OnlyInputs P s t) (hpq : ∀ j, P j → Q j) : OnlyInputs Q s t :=
  ⟨h.1, fun j hj => h.2 j fun hp => hj (hpq j hp)⟩

theorem ofEvents {s t : State} (h : OnlyEvents s t) : OnlyInputs P s t :=
  ⟨by
    unfold OnlyEvents at h ⊢
    rw [h], fun j _ => by rw [h.fronts, h.rings]; exact ⟨rfl, rfl⟩⟩

theorem setFront {i : InputIx} (hi : P i) (s : State) (f : FrontEnd) : OnlyInputs P s (s.setFront i f) := by
  refine ⟨rfl, fun j hj => ⟨Table.get_set_of_ne _ _ ?_, rfl⟩⟩
  intro e
  exact hj (e ▸ hi)

theorem modFront {i : InputIx} (hi : P i) (s : State) (f : FrontEnd → FrontEnd) : OnlyInputs P s (s.modFront i f) :=
  setFront hi s _

theorem modRing {i : InputIx} (hi : P i) (s : State) (f : Ring → Ring) : OnlyInputs P s (s.modRing i f) := by
  refine ⟨rfl, fun j hj => ⟨rfl, Table.get_set_of_ne _ _ ?_⟩⟩
  intro e
  exact hj (e ▸ hi)

/-- What every step of a walk over a list keeps, the walk keeps. -/
theorem foldl {α : Type} {f : State → α → State} (h : ∀ s a, OnlyInputs P s (f s a)) (xs : List α) (s : State) :
    OnlyInputs P s (xs.foldl f s) := by
  induction xs generalizing s with
  | nil => exact refl s
  | cons a xs ih => exact (h s a).trans (ih _)

section Fields
variable {s t : State} (h : OnlyInputs P s t)
include h

theorem clock : t.clock = s.clock := h.1.clock
theorem rank : t.rank = s.rank := h.1.rank
theorem staged : t.staged = s.staged := h.1.staged
theorem comps : t.comps = s.comps := h.1.comps
theorem pool : t.pool = s.pool := h.1.pool
theorem marker : t.marker = s.marker := h.1.marker
theorem pins : t.pins = s.pins := h.1.pins
theorem holds : t.holds = s.holds := h.1.holds
theorem zones : t.zones = s.zones := h.1.zones
theorem detector : t.detector = s.detector := h.1.detector
theorem pending : t.pending = s.pending := h.1.pending

/-- All of a link but its event state. -/
theorem link (l : Link) : t.link l = { s.link l with events := (t.link l).events } := by
  cases l
  · exact h.1.link .a
  · exact h.1.link .b

end Fields

end OnlyInputs

namespace State

variable (i : InputIx) (s : State)

/-! ## Snapshots (R97) -/

/-- A snapshot changes its own front end and the event states. -/
theorem snapshot_eq : OnlyEvents (s.setFront i (s.fronts.get i).takeSnapshot) (s.snapshot i) := by
  unfold State.snapshot
  simp only
  split
  · exact OnlyEvents.raiseBoth _ _ _
  · exact OnlyEvents.refl _

/-- One snapshot after another of a list of inputs. -/
theorem snapshotList_front (xs : List InputIx) (hd : xs.Nodup) (s : State) (i : InputIx) :
    (xs.foldl (fun t i => t.snapshot i) s).fronts.get i =
      if i ∈ xs then (s.fronts.get i).takeSnapshot else s.fronts.get i := by
  induction xs generalizing s with
  | nil => simp
  | cons a xs ih =>
    obtain ⟨ha, hd⟩ := List.nodup_cons.mp hd
    rw [List.foldl_cons, ih hd, (snapshot_eq a s).fronts]
    by_cases e : a = i
    · subst e
      simp [ha]
    · have e' : ¬ i = a := fun h => e h.symm
      simp [Table.get_set_of_ne _ _ e, e']

/-- The inputs of the set in the mode named are snapshot, and the others stand. -/
theorem snapshots_front (mode : SnapshotMode) (p : InputIx → Bool) :
    (s.snapshots mode p).fronts.get i =
      if p i = true ∧ (s.fronts.get i).snapshotMode = mode then (s.fronts.get i).takeSnapshot else s.fronts.get i := by
  unfold State.snapshots
  rw [snapshotList_front _ ((List.nodup_finRange 12).filter _)]
  simp [List.mem_filter]

/-- Snapshots change front ends and event states alone. -/
theorem snapshots_frame (mode : SnapshotMode) (p : InputIx → Bool) :
    OnlyEvents { s with fronts := (s.snapshots mode p).fronts } (s.snapshots mode p) := by
  have one (xs : List InputIx) (s : State) :
      OnlyEvents { s with fronts := (xs.foldl (fun t i => t.snapshot i) s).fronts } (xs.foldl (fun t i => t.snapshot i) s) := by
    induction xs generalizing s with
    | nil => exact OnlyEvents.refl s
    | cons a xs ih =>
      have h1 := ih (s.snapshot a)
      have h2 := snapshot_eq a s
      rw [List.foldl_cons]
      unfold OnlyEvents at h1 h2 ⊢
      rw [h1, h2]
      rfl
  exact one _ s

/-! ## One input -/

theorem setFront_frame (f : FrontEnd) : OnlyInputs (· = i) s (s.setFront i f) := OnlyInputs.setFront (P := (· = i)) rfl s f

theorem modFront_frame (f : FrontEnd → FrontEnd) : OnlyInputs (· = i) s (s.modFront i f) := setFront_frame i s _

theorem modRing_frame (f : Ring → Ring) : OnlyInputs (· = i) s (s.modRing i f) := OnlyInputs.modRing (P := (· = i)) rfl s f

theorem abandonSlot_frame : OnlyInputs (· = i) s (s.abandonSlot i) := by
  unfold State.abandonSlot
  split
  · split
    · exact (modRing_frame i _ _).trans (modFront_frame i _ _)
    · exact OnlyInputs.refl _
  · exact OnlyInputs.refl _

theorem completeInvalid_frame : OnlyInputs (· = i) s (s.completeInvalid i) :=
  (abandonSlot_frame i s).trans (modFront_frame i _ _)

theorem askSlot_frame (seq : Nat) : OnlyInputs (· = i) s (s.askSlot i seq).1 := by
  unfold State.askSlot
  split
  · exact modRing_frame i _ _
  · exact modFront_frame i _ _

theorem captureStart_frame : OnlyInputs (· = i) s (s.captureStart i).1 := by
  unfold State.captureStart
  simp only
  split
  · exact (setFront_frame i _ _).trans (askSlot_frame i _ _)
  · exact OnlyInputs.refl _

theorem openFrame_frame : OnlyInputs (· = i) s (s.openFrame i) :=
  (captureStart_frame i s).trans (modFront_frame i _ _)

/-- A frame start touches its own input alone (R81, R88). -/
theorem frameStart_frame : OnlyInputs (· = i) s (s.frameStart i) := by
  unfold State.frameStart
  split
  · exact (completeInvalid_frame i s).trans (openFrame_frame i _)
  · exact openFrame_frame i s

theorem checkLine_frame (good : Bool) : OnlyInputs (· = i) s (s.checkLine i good) := by
  unfold State.checkLine
  simp only
  split
  · exact setFront_frame i _ _
  · exact (setFront_frame i _ _).trans (OnlyInputs.ofEvents (OnlyEvents.raiseCheckSync _ _ _))

/-- An active line touches its own input alone (R82, R94, R104). -/
theorem activeLine_frame (pixels : List Colour) : OnlyInputs (· = i) s (s.activeLine i pixels) := by
  unfold State.activeLine
  split
  · exact OnlyInputs.refl _
  · refine OnlyInputs.trans ?_ (checkLine_frame i _ _)
    refine OnlyInputs.trans ?_ (modFront_frame i _ _)
    split
    · exact modRing_frame i _ _
    · exact OnlyInputs.refl _

theorem raiseMonitor_frame (before now : MonitorState) : OnlyEvents s (s.raiseMonitor i before now) := by
  unfold State.raiseMonitor
  split
  · exact OnlyEvents.refl _
  · simp only
    split
    · exact (OnlyEvents.raiseInputState _ _ _).trans (OnlyEvents.raiseBoth _ _ _)
    · exact OnlyEvents.raiseInputState _ _ _

theorem handOff_frame (x : FrameInProgress) (kept : Bool) (audio : Option (List Stereo)) :
    OnlyInputs (· = i) s (s.handOff i x kept audio) := by
  unfold State.handOff
  split
  · refine OnlyInputs.trans ?_ (modFront_frame i _ _)
    split
    · exact modRing_frame i _ _
    · exact OnlyInputs.refl _
  · exact abandonSlot_frame i s

/-- A frame end touches its own input alone (R81 to R89, R98). -/
theorem frameEnd_frame (audio : Option (List Stereo)) : OnlyInputs (· = i) s (s.frameEnd i audio) := by
  unfold State.frameEnd
  simp only
  split
  · exact OnlyInputs.refl _
  · split
    · exact completeInvalid_frame i s
    · refine OnlyInputs.trans ?_ (modFront_frame i _ _)
      refine OnlyInputs.trans ?_ (handOff_frame i _ _ _ _)
      exact (setFront_frame i _ _).trans (OnlyInputs.ofEvents (raiseMonitor_frame i _ _ _))

theorem loseSync_frame : OnlyInputs (· = i) s (s.loseSync i) := by
  unfold State.loseSync
  split
  · exact (modFront_frame i _ _).trans (OnlyInputs.ofEvents (OnlyEvents.raiseCheckSync _ _ _))
  · exact OnlyInputs.refl _

/-- An entry to LOST touches its own input alone (R86, R87, R90, R95, R98). -/
theorem loseInput_frame : OnlyInputs (· = i) s (s.loseInput i) :=
  ((setFront_frame i _ _).trans (loseSync_frame i _)).trans (OnlyInputs.ofEvents (OnlyEvents.raiseInputState _ _ _))

theorem setLoop_frame (lp : Option ScreenIx) : OnlyInputs (· = i) s (s.setLoop i lp) := by
  unfold State.setLoop
  split
  · exact OnlyInputs.refl _
  · simp only
    refine OnlyInputs.trans ?_ (loseSync_frame i _)
    split
    · exact (abandonSlot_frame i s).trans (modFront_frame i _ _)
    · exact ((abandonSlot_frame i s).trans (modFront_frame i _ _)).trans (loseInput_frame i _)

/-- SET_INPUT touches its own input alone (R131). -/
theorem applyInputSettings_frame (x : InputSettings) : OnlyInputs (· = i) s (s.applyInputSettings i x) :=
  ((modFront_frame i _ _).trans (setLoop_frame i _ _)).trans (modFront_frame i _ _)

/-! ## Looped inputs (R92) -/

/-- What a frame start, a line or a frame end does to a front end leaves its loop selection. -/
theorem loop_abandonSlot : ((s.abandonSlot i).fronts.get i).loop = (s.fronts.get i).loop := by
  unfold State.abandonSlot
  split
  · split <;> simp
  · rfl

@[simp] theorem loop_countEvent (f : FrontEnd) (k : CounterKind) : (f.countEvent k).loop = f.loop := by
  unfold FrontEnd.countEvent
  split
  · split <;> rfl
  · rfl

theorem loop_completeInvalid : ((s.completeInvalid i).fronts.get i).loop = (s.fronts.get i).loop := by
  simp [State.completeInvalid, loop_abandonSlot]

theorem loop_openFrame : ((s.openFrame i).fronts.get i).loop = (s.fronts.get i).loop := by
  unfold State.openFrame State.captureStart State.askSlot
  simp only
  split
  · split <;> simp
  · simp

theorem loop_frameStart : ((s.frameStart i).fronts.get i).loop = (s.fronts.get i).loop := by
  unfold State.frameStart
  split
  · rw [loop_openFrame, loop_completeInvalid]
  · exact loop_openFrame i s

theorem loop_judgeLine (f : FrontEnd) (good : Bool) : (f.judgeLine good).loop = f.loop := by
  unfold FrontEnd.judgeLine
  split
  · rfl
  · unfold FrontEnd.huntLine
    split
    · split <;> rfl
    · rfl
  · unfold FrontEnd.syncLine
    cases good <;> simp only [if_true, Bool.false_eq_true, if_false]
    · split
      · simp [FrontEnd.enterHunt]
      · split <;> simp
    · split
      · rfl
      · split <;> rfl

theorem loop_activeLine (pixels : List Colour) : ((s.activeLine i pixels).fronts.get i).loop = (s.fronts.get i).loop := by
  have check (t : State) (good : Bool) : ((t.checkLine i good).fronts.get i).loop = (t.fronts.get i).loop := by
    unfold State.checkLine
    simp only
    split
    · simp [loop_judgeLine]
    · rw [(OnlyEvents.raiseCheckSync _ _ _).fronts]
      simp [loop_judgeLine]
  unfold State.activeLine
  split
  · rfl
  · rw [check]
    split <;> simp only [fronts_modFront, fronts_modRing, Table.get_set_self] <;> split <;> simp

theorem loop_validFrame (f : FrontEnd) (x : Format) : (f.validFrame x).loop = f.loop := by
  unfold FrontEnd.validFrame
  split
  · rfl
  · split
    · split
      · split <;> rfl
      · rfl
    · rfl
  · split
    · split <;> rfl
    · rfl

theorem loop_frameEnd (audio : Option (List Stereo)) : ((s.frameEnd i audio).fronts.get i).loop = (s.fronts.get i).loop := by
  have audioLoop (f : FrontEnd) : (f.takeAudio audio).loop = f.loop := by
    unfold FrontEnd.takeAudio
    split <;> rfl
  have hand (t : State) (x : FrameInProgress) (kept : Bool) :
      ((t.handOff i x kept audio).fronts.get i).loop = (t.fronts.get i).loop := by
    unfold State.handOff
    split
    · simp only [fronts_modFront, Table.get_set_self, audioLoop]
      split <;> rfl
    · exact loop_abandonSlot i t
  unfold State.frameEnd
  simp only
  split
  · rfl
  · split
    · exact loop_completeInvalid i s
    · simp only [fronts_modFront, Table.get_set_self]
      rw [hand, (raiseMonitor_frame i _ _ _).fronts]
      simp [loop_validFrame]

/-- The inputs looped from a screen take the start of its frame, each by itself, and everything else stands (R60, R92). -/
theorem startLoopedFrames_frame (scr : ScreenIx) : OnlyInputs (fun j => (s.fronts.get j).loop = some scr) s (s.startLoopedFrames scr) := by
  have walk (xs : List InputIx) (t : State) (hl : ∀ j, (t.fronts.get j).loop = (s.fronts.get j).loop) :
      OnlyInputs (fun j => (s.fronts.get j).loop = some scr) t
        (xs.foldl (fun t i => if t.loopedFrom scr i then t.frameStart i else t) t) := by
    induction xs generalizing t with
    | nil => exact OnlyInputs.refl t
    | cons a xs ih =>
      rw [List.foldl_cons]
      by_cases h : t.loopedFrom scr a
      · rw [if_pos h]
        have ha : (s.fronts.get a).loop = some scr := by
          rw [← hl a]
          simpa [State.loopedFrom] using h
        refine OnlyInputs.trans ((frameStart_frame a t).mono fun j e => e ▸ ha) (ih _ fun j => ?_)
        by_cases e : j = a
        · subst e
          rw [loop_frameStart, hl]
        · rw [((frameStart_frame a t).2 j e).1, hl]
      · rw [if_neg h]
        exact ih t hl
  exact walk _ s fun _ => rfl

theorem takeRows_frame (pic : State) (scr : ScreenIx) (rows : List Nat) :
    OnlyInputs (· = i) s (State.takeRows pic scr i rows s) :=
  OnlyInputs.foldl (fun t _ => activeLine_frame i t _) rows s

/-- An input looped from a screen takes the rest of the screen's frame by itself; another input takes nothing (R92). -/
theorem endLoopedFrame_frame (pic : State) (scr : ScreenIx) :
    OnlyInputs (fun j => j = i ∧ (s.fronts.get j).loop = some scr) s (State.endLoopedFrame pic scr s i) := by
  unfold State.endLoopedFrame
  split
  · next h =>
    have hi : (s.fronts.get i).loop = some scr := by
      simp only [Bool.and_eq_true, State.loopedFrom, beq_iff_eq] at h
      exact h.1
    exact ((takeRows_frame i s _ _ _).trans (frameEnd_frame i _ none)).mono fun j e => ⟨e, e ▸ hi⟩
  · exact OnlyInputs.refl s

/-- The inputs looped from a screen take the rest of its frame, and everything else stands (R92). -/
theorem endLoopedFrames_frame (scr : ScreenIx) :
    OnlyInputs (fun j => (s.fronts.get j).loop = some scr) s (s.endLoopedFrames scr) := by
  have rows (i : InputIx) (xs : List Nat) (t : State) :
      ((State.takeRows s scr i xs t).fronts.get i).loop = (t.fronts.get i).loop := by
    unfold State.takeRows
    induction xs generalizing t with
    | nil => rfl
    | cons r xs ih => exact (ih _).trans (loop_activeLine i t _)
  have keep (t : State) (i j : InputIx) :
      ((State.endLoopedFrame s scr t i).fronts.get j).loop = (t.fronts.get j).loop := by
    by_cases e : j = i
    · subst e
      unfold State.endLoopedFrame
      split
      · rw [loop_frameEnd, rows]
      · rfl
    · rw [((endLoopedFrame_frame i t s scr).2 j fun h => e h.1).1]
  have walk (xs : List InputIx) (t : State) (hl : ∀ j, (t.fronts.get j).loop = (s.fronts.get j).loop) :
      OnlyInputs (fun j => (s.fronts.get j).loop = some scr) t (xs.foldl (State.endLoopedFrame s scr) t) := by
    induction xs generalizing t with
    | nil => exact OnlyInputs.refl t
    | cons a xs ih =>
      exact ((endLoopedFrame_frame a t s scr).mono fun j h => hl j ▸ h.2).trans (ih _ fun j => (keep t a j).trans (hl j))
  exact walk _ s fun _ => rfl

end State

end Sys2Proof.Machine
end

