-- ==== Sys2Proof/Laws/Links.lean ====
section
/-! SUPPORT. What entering a reply, taking a frame of a kind, and completing a frame can do. -/

namespace Sys2Proof.Machine

/-- Every kind byte of Table 11-1 names its kind (R178). -/
theorem requestKind_code (k : RequestKind) : requestKind k.code = some k := by
  cases k with
  | edit e => cases e <;> decide
  | query q => cases q <;> decide
  | identify => decide
  | takeEvents => decide
  | setEvents => decide
  | wallReset => decide
  | linkReset => decide

theorem requestKind_edit (k : EditKind) : requestKind k.code = some (.edit k) := requestKind_code (.edit k)

theorem requestKind_query (k : QueryKind) : requestKind k.code = some (.query k) := requestKind_code (.query k)

/-- A reply goes to the tail of the queue. -/
@[simp] theorem replies_enterReply (x : LinkState) (body : List Byte) : (x.enterReply body).replies = x.replies ++ [body] := rfl

section Fields
variable (x : LinkState) (body : List Byte)
@[simp] theorem txLeft_enterReply : (x.enterReply body).txLeft = x.txLeft + frameUnits x.rate body := rfl
@[simp] theorem zero_enterReply : (x.enterReply body).zero = x.zero := rfl
@[simp] theorem rate_enterReply : (x.enterReply body).rate = x.rate := rfl
@[simp] theorem fifo_enterReply : (x.enterReply body).fifo = x.fifo := rfl
@[simp] theorem parser_enterReply : (x.enterReply body).parser = x.parser := rfl
@[simp] theorem edits_enterReply : (x.enterReply body).edits = x.edits := rfl
@[simp] theorem barrier_enterReply : (x.enterReply body).barrier = x.barrier := rfl
@[simp] theorem query_enterReply : (x.enterReply body).query = x.query := rfl
@[simp] theorem events_enterReply : (x.enterReply body).events = x.events := rfl
@[simp] theorem record_enterReply : (x.enterReply body).record = x.record := rfl
@[simp] theorem refusals_enterReply : (x.enterReply body).refusals = x.refusals := rfl
@[simp] theorem errors_enterReply : (x.enterReply body).errors = x.errors := rfl
end Fields

/-- A reply changes its own link alone. -/
theorem reply_eq (s : State) (l : Link) (body : List Byte) : s.reply l body = s.setLink l ((s.link l).enterReply body) := rfl

/-- A frame that completes on a ready link is taken in that event (R162). -/
theorem complete_ready (s : State) (l : Link) (kind tag : Byte) (f : List Byte) (hq : (s.link l).quiet = true)
    (hr : (s.link l).replyRoom = true) :
    s.complete l kind tag f = (s.setLink l ((s.link l).arrived s.clock)).takeFrame l kind tag f := by
  simp [State.complete, hq, hr, State.modLink]

/-- A frame that completes with the reply queue full is held (R162). -/
theorem complete_full (s : State) (l : Link) (kind tag : Byte) (f : List Byte) (hq : (s.link l).quiet = true)
    (hr : (s.link l).replyRoom = false) :
    s.complete l kind tag f =
      s.setLink l { (s.link l).arrived s.clock with parser := { (s.link l).parser with phase := .complete (kind :: tag :: f) } } := by
  simp [State.complete, hq, hr, State.modLink, LinkState.arrived]

/-- No frame completes on a link whose parser is busy (log 7). -/
theorem complete_busy (s : State) (l : Link) (kind tag : Byte) (f : List Byte) (hq : (s.link l).quiet = false) :
    s.complete l kind tag f = s := by
  simp [State.complete, hq]

/-- A frame of a named kind with a good length takes its kind's path (R163). -/
theorem takeFrame_named (s : State) (l : Link) (tag : Byte) (k : RequestKind) (f : List Byte) (h : k.lengthOk f = true) :
    s.takeFrame l k.code tag f = s.takeKind l tag k f := by
  simp [State.takeFrame, State.takeNamed, requestKind_code, h]

/-- A frame of a named kind with a bad length gets BAD_LENGTH (R163). -/
theorem takeFrame_badLength (s : State) (l : Link) (tag : Byte) (k : RequestKind) (f : List Byte) (h : k.lengthOk f = false) :
    s.takeFrame l k.code tag f = s.nak l tag k.code .badLength := by
  simp [State.takeFrame, State.takeNamed, requestKind_code, h]

/-- A frame of no kind gets UNKNOWN_KIND (R163). -/
theorem takeFrame_unknown (s : State) (l : Link) (kind tag : Byte) (f : List Byte) (h : requestKind kind = none) :
    s.takeFrame l kind tag f = s.nak l tag kind .unknownKind := by
  simp [State.takeFrame, h]

end Sys2Proof.Machine
end

