-- ==== Sys2Proof/Laws/Time.lean ====
section
/-! SUPPORT. What the passing of time and the one-second tick can do. -/

namespace Sys2Proof.Machine

/-! ## The time between two ticks -/

namespace State

section Fields
variable (n : Nat) (s : State)

@[simp] theorem clock_pass : (s.pass n).clock = s.clock + n := rfl
@[simp] theorem rank_pass : (s.pass n).rank = s.rank := rfl
@[simp] theorem staged_pass : (s.pass n).staged = s.staged := rfl
@[simp] theorem pool_pass : (s.pass n).pool = s.pool := rfl
@[simp] theorem rings_pass : (s.pass n).rings = s.rings := rfl
@[simp] theorem marker_pass : (s.pass n).marker = s.marker := rfl
@[simp] theorem pins_pass : (s.pass n).pins = s.pins := rfl
@[simp] theorem zones_pass : (s.pass n).zones = s.zones := rfl
@[simp] theorem detector_pass : (s.pass n).detector = s.detector := rfl
@[simp] theorem pending_pass : (s.pass n).pending = s.pending := rfl
@[simp] theorem link_pass (l : Link) : (s.pass n).link l = (s.link l).elapse n := by cases l <;> rfl

end Fields

/-! ## The one-second tick (R97, R128) -/

theorem raiseLapse_frame (pins : Table Pin 16) (s : State) (scr : ScreenIx) : OnlyEvents s (s.raiseLapse pins scr) := by
  unfold State.raiseLapse
  split
  · exact OnlyEvents.raise _ _ _ _
  · exact OnlyEvents.refl _

/-- A tick lowers every running lapse timer and releases the pins whose timers reach 0 (R128). -/
@[simp] theorem pins_secondTick (s : State) : s.secondTick.pins = s.pins.map Pin.tick := by
  unfold State.secondTick
  rw [(OnlyEvents.foldl (raiseLapse_frame s.pins) _ _).pins]
  exact congrArg (Table.map Pin.tick) (snapshots_frame s .auto _).pins

/-- But for the pins, a tick touches the counters of the front ends and the event states of the links alone. -/
theorem secondTick_frame (s : State) :
    s.secondTick =
      { s with
        pins := s.pins.map Pin.tick, fronts := (s.snapshots .auto fun _ => true).fronts
        linkA := { s.linkA with events := s.secondTick.linkA.events }
        linkB := { s.linkB with events := s.secondTick.linkB.events } } := by
  have h1 := snapshots_frame s .auto (fun _ => true)
  have h2 := OnlyEvents.foldl (raiseLapse_frame s.pins) (List.finRange 16)
    { s.snapshots .auto (fun _ => true) with pins := (s.snapshots .auto fun _ => true).pins.map Pin.tick }
  unfold State.secondTick
  generalize hu : (List.finRange 16).foldl (State.raiseLapse s.pins)
    { s.snapshots .auto (fun _ => true) with pins := (s.snapshots .auto fun _ => true).pins.map Pin.tick } = u at h2 ⊢
  unfold OnlyEvents at h2
  rw [h2, h1]

/-- A tick snapshots the inputs in AUTO mode (R97). -/
theorem front_secondTick (s : State) (i : InputIx) :
    s.secondTick.fronts.get i =
      if (s.fronts.get i).snapshotMode = .auto then (s.fronts.get i).takeSnapshot else s.fronts.get i := by
  rw [congrArg State.fronts (secondTick_frame s)]
  simp [snapshots_front]

section Fields
variable (s : State)

@[simp] theorem clock_secondTick : s.secondTick.clock = s.clock := by rw [secondTick_frame]
@[simp] theorem rank_secondTick : s.secondTick.rank = s.rank := by rw [secondTick_frame]
@[simp] theorem staged_secondTick : s.secondTick.staged = s.staged := by rw [secondTick_frame]
@[simp] theorem comps_secondTick : s.secondTick.comps = s.comps := by rw [secondTick_frame]
@[simp] theorem pool_secondTick : s.secondTick.pool = s.pool := by rw [secondTick_frame]
@[simp] theorem rings_secondTick : s.secondTick.rings = s.rings := by rw [secondTick_frame]
@[simp] theorem marker_secondTick : s.secondTick.marker = s.marker := by rw [secondTick_frame]
@[simp] theorem holds_secondTick : s.secondTick.holds = s.holds := by rw [secondTick_frame]
@[simp] theorem zones_secondTick : s.secondTick.zones = s.zones := by rw [secondTick_frame]
@[simp] theorem detector_secondTick : s.secondTick.detector = s.detector := by rw [secondTick_frame]
@[simp] theorem pending_secondTick : s.secondTick.pending = s.pending := by rw [secondTick_frame]

theorem link_secondTick (l : Link) : s.secondTick.link l = { s.link l with events := (s.secondTick.link l).events } := by
  cases l
  · exact congrArg State.linkA (secondTick_frame s)
  · exact congrArg State.linkB (secondTick_frame s)

end Fields

/-! ## Any number of ticks -/

/-- What every tick keeps, any number of ticks keeps. -/
theorem secondTicks_keeps {α : Type} (g : State → α) (h : ∀ s : State, g s.secondTick = g s) (k : Nat) (s : State) :
    g (secondTicks k s) = g s := by
  induction k generalizing s with
  | zero => rfl
  | succ k ih => exact (ih s.secondTick).trans (h s)

theorem link_secondTicks (k : Nat) (s : State) (l : Link) :
    (secondTicks k s).link l = { s.link l with events := ((secondTicks k s).link l).events } := by
  induction k generalizing s with
  | zero => rfl
  | succ k ih =>
    change (secondTicks k s.secondTick).link l = { s.link l with events := ((secondTicks k s.secondTick).link l).events }
    rw [ih s.secondTick, link_secondTick s l]

/-- With no one-second tick in it, the passing of time is that of the clock and timers alone. -/
theorem elapse_no_tick {n : Nat} {s : State} (h : s.secondsIn n = 0) : s.elapse n = s.pass n := by
  simp [State.elapse, h, State.secondTicks]

/-! ## The passing of time -/

section Fields
variable (n : Nat) (s : State)

@[simp] theorem clock_elapse : (s.elapse n).clock = s.clock + n :=
  secondTicks_keeps State.clock clock_secondTick _ _
@[simp] theorem rank_elapse : (s.elapse n).rank = s.rank := secondTicks_keeps State.rank rank_secondTick _ _
@[simp] theorem staged_elapse : (s.elapse n).staged = s.staged := secondTicks_keeps State.staged staged_secondTick _ _
@[simp] theorem pool_elapse : (s.elapse n).pool = s.pool := secondTicks_keeps State.pool pool_secondTick _ _
@[simp] theorem rings_elapse : (s.elapse n).rings = s.rings := secondTicks_keeps State.rings rings_secondTick _ _
@[simp] theorem marker_elapse : (s.elapse n).marker = s.marker := secondTicks_keeps State.marker marker_secondTick _ _
@[simp] theorem zones_elapse : (s.elapse n).zones = s.zones := secondTicks_keeps State.zones zones_secondTick _ _
@[simp] theorem detector_elapse : (s.elapse n).detector = s.detector :=
  secondTicks_keeps State.detector detector_secondTick _ _
@[simp] theorem pending_elapse : (s.elapse n).pending = s.pending := secondTicks_keeps State.pending pending_secondTick _ _

/-- The transmitter of a link runs on, and events are raised; the rest of the link stays. -/
theorem link_elapse (l : Link) :
    (s.elapse n).link l = { (s.link l).elapse n with events := ((s.elapse n).link l).events } := by
  unfold State.elapse
  rw [link_secondTicks, link_pass]

/-- A compositor's timing alone runs on. -/
theorem comp_elapse (scr : ScreenIx) :
    (s.elapse n).comps.get scr = { s.comps.get scr with timing := (s.comps.get scr).timing.elapse n } := by
  rw [show (s.elapse n).comps = (s.pass n).comps from secondTicks_keeps State.comps comps_secondTick _ _]
  simp [State.pass]

/-- A hold's timer alone counts. -/
theorem holds_elapse : (s.elapse n).holds = (s.pass n).holds := secondTicks_keeps State.holds holds_secondTick _ _

/-- A hold's holder stays. -/
theorem holder_elapse (scr : ScreenIx) : ((s.elapse n).holds.get scr).holder = (s.holds.get scr).holder := by
  rw [holds_elapse]
  simp [State.pass]

/-- What neither the timers of a front end nor its snapshots reach, the passing of time keeps. -/
theorem front_elapse_keeps {α : Type} (g : FrontEnd → α) (h1 : ∀ f n ms, g (FrontEnd.elapse n ms f) = g f)
    (h2 : ∀ f, g (FrontEnd.takeSnapshot f) = g f) (i : InputIx) :
    g ((s.elapse n).fronts.get i) = g (s.fronts.get i) := by
  refine (secondTicks_keeps (fun s => g (s.fronts.get i)) (fun s => ?_) _ _).trans ?_
  · simp only [front_secondTick]
    split
    · exact h2 _
    · rfl
  · simp [State.pass, h1]

end Fields

/-! ## The front ends -/

/-- A tick reaches the counters of a front end alone. -/
theorem front_secondTick_counters (s : State) (i : InputIx) :
    s.secondTick.fronts.get i =
      { s.fronts.get i with
        count := (s.secondTick.fronts.get i).count, countOver := (s.secondTick.fronts.get i).countOver
        snap := (s.secondTick.fronts.get i).snap, snapOver := (s.secondTick.fronts.get i).snapOver } := by
  rw [front_secondTick]
  split <;> rfl

/-- So does any number of ticks. -/
theorem front_secondTicks (k : Nat) (s : State) (i : InputIx) :
    (secondTicks k s).fronts.get i =
      { s.fronts.get i with
        count := ((secondTicks k s).fronts.get i).count, countOver := ((secondTicks k s).fronts.get i).countOver
        snap := ((secondTicks k s).fronts.get i).snap, snapOver := ((secondTicks k s).fronts.get i).snapOver } := by
  induction k generalizing s with
  | zero => rfl
  | succ k ih =>
    have h := ih s.secondTick
    rw [front_secondTick_counters s i] at h
    exact h

/-- The timers of a front end run, ticks take its snapshots, and the rest of it stays. -/
theorem front_elapse (n : Nat) (s : State) (i : InputIx) :
    (s.elapse n).fronts.get i =
      { (s.fronts.get i).elapse n ((s.clock + n) / 27000 - s.clock / 27000) with
        count := ((s.elapse n).fronts.get i).count, countOver := ((s.elapse n).fronts.get i).countOver
        snap := ((s.elapse n).fronts.get i).snap, snapOver := ((s.elapse n).fronts.get i).snapOver } := by
  have hp : (s.pass n).fronts.get i = (s.fronts.get i).elapse n ((s.clock + n) / 27000 - s.clock / 27000) := by
    simp [State.pass, Config.msPeriods]
  rw [← hp]
  exact front_secondTicks (s.secondsIn n) (s.pass n) i

/-! ## No time -/

theorem map_id_table {α : Type} {n : Nat} (t : Table α n) (f : α → α) (h : ∀ x, f x = x) : t.map f = t :=
  Table.ext_get fun i => by simp [h]

theorem timing_elapse_zero (t : Timing) : t.elapse 0 = t := by cases t <;> rfl

theorem front_elapse_zero (f : FrontEnd) : f.elapse 0 0 = f := by
  have h1 : f.slateTimer.elapse 0 = f.slateTimer := by cases f.slateTimer <;> rfl
  simp [FrontEnd.elapse, h1]

theorem link_elapse_zero (x : LinkState) : x.elapse 0 = x := by simp [LinkState.elapse]

/-- No time passing changes nothing. -/
@[simp] theorem elapse_zero (s : State) : s.elapse 0 = s := by
  have hc : s.comps.map (fun c => { c with timing := c.timing.elapse 0 }) = s.comps :=
    map_id_table _ _ fun c => by rw [timing_elapse_zero]
  have hf : s.fronts.map (FrontEnd.elapse 0 0) = s.fronts := map_id_table _ _ front_elapse_zero
  have hh : s.holds.map (fun h => { h with ms := h.ms - 0 }) = s.holds := map_id_table _ _ fun h => by simp
  rw [elapse_no_tick (by simp [State.secondsIn])]
  simp only [State.pass, Nat.add_zero, Nat.sub_self, hc, hf, hh, link_elapse_zero]

/-- ONE_SECOND_TICK reaches exactly one tick. -/
theorem secondsIn_toSecond (s : State) : s.secondsIn s.toSecond = 1 := by
  simp only [State.secondsIn, State.toSecond, periodsToTick, Config.secondPeriods, Nat.one_ne_zero, if_false]
  omega

end State

end Sys2Proof.Machine
end

