-- ==== Sys2Proof/Laws/Lines.lean ====
section
/-! SUPPORT. What the transmitter of a link and a break on its receive line can do (R156, R158, R170). -/

namespace Sys2Proof.Machine

/-! ## The transmitter (R156) -/

/-- Time passes for the head frame as it does for all that is being sent. -/
theorem headLeft_elapse (x : LinkState) (n : Nat) : (x.elapse n).headLeft = x.headLeft - 16 * n := by
  simp only [LinkState.headLeft, LinkState.elapse]
  omega

/-- The end of a frame costs the frames behind it no time: with no RESULT waiting, the queue alone changes. -/
theorem endFrame_of_not_answered (x : LinkState) (h : ∀ body, x.query ≠ .answered body) :
    x.endFrame = { x with replies := x.replies.tail } := by
  cases hq : x.query with
  | answered body => exact absurd hq (h body)
  | waiting tag q => simp [LinkState.endFrame, hq]
  | empty => simp [LinkState.endFrame, hq]

/-- A RESULT waiting in the query slot takes the freed place. -/
theorem endFrame_of_answered (x : LinkState) (body : List Byte) (h : x.query = .answered body) :
    x.endFrame = { x with replies := x.replies.tail, query := .empty }.enterReply body := by
  simp [LinkState.endFrame, h]

/-- At most one character is left of the one being sent (R170). -/
theorem charLeft_le (x : LinkState) : x.charLeft ≤ charUnits x.rate := by
  unfold LinkState.charLeft
  have h : 0 < charUnits x.rate := by cases x.rate <;> decide
  have := Nat.mod_lt (x.txLeft - 1) h
  split <;> omega

/-! ## Breaks (R158) -/

/-- A zero under way is held on. -/
theorem holdZero_of_held (s : State) (l : Link) (h : (s.link l).zero.held s.clock = true) : s.holdZero l = s := by
  simp [State.holdZero, h]

/-- Where no zero is under way the line falls, and its character comes with a zero stop bit. -/
theorem holdZero_of_not_held (s : State) (l : Link) (h : (s.link l).zero.held s.clock = false) :
    s.holdZero l = (s.elapse (zeroPeriods (s.link l).rate 0)).arrive l 0 false := by
  simp [State.holdZero, h]

/-- A character of zeros alone has the line at zero from its start bit on: 9.5 bit times. -/
@[simp] theorem zeroPeriods_zero (rate : LineRate) :
    zeroPeriods rate 0 = match rate with | .baud115200 => 2226 | .baud460800 => 556 := by
  cases rate <;> rfl

/-- Any other byte leaves the zero that follows its most significant one. -/
theorem zeroHalfBits_eq (b : Byte) : zeroHalfBits b = if b = 0 then 19 else 15 - 2 * b.toNat.log2 := by
  revert b
  decide +kernel

theorem held_framed (edge clock : Nat) : (LineZero.framed edge).held clock = decide (clock ≤ edge + 675000) := rfl

/-- BREAK on a zero under way: the rest of its 25 ms passes. -/
theorem execLineBreak_of_held (s : State) (l : Link) (edge : Nat) (hz : (s.link l).zero = .framed edge)
    (hc : s.clock ≤ edge + 675000) :
    execLineBreak l s = .next ((s.elapse (edge + 675000 - s.clock)).breakLine l) := by
  have h : (s.link l).zero.held s.clock = true := by simp [hz, held_framed, hc]
  simp [execLineBreak, holdZero_of_held s l h, State.toBreak, hz, Config.breakPeriods]

end Sys2Proof.Machine
end

