-- ==== Sys2Proof/Laws/Looped.lean ====
section
/-! SUPPORT. What happens to one input depends on that input and the clock alone, and so the walks over the looped inputs come down to one input each (R92). -/

namespace Sys2Proof.Machine

/-- Two parts agree on one input, its ring, and the clock. -/
def AgreeOn (i : InputIx) (s t : State) : Prop :=
  s.fronts.get i = t.fronts.get i ∧ s.rings.get i = t.rings.get i ∧ s.clock = t.clock

namespace AgreeOn

variable {i : InputIx} {s t u : State}

theorem refl : AgreeOn i s s := ⟨rfl, rfl, rfl⟩

theorem symm (h : AgreeOn i s t) : AgreeOn i t s := ⟨h.1.symm, h.2.1.symm, h.2.2.symm⟩

theorem trans (h : AgreeOn i s t) (k : AgreeOn i t u) : AgreeOn i s u :=
  ⟨h.1.trans k.1, h.2.1.trans k.2.1, h.2.2.trans k.2.2⟩

/-- An event of another input leaves this one. -/
theorem ofOthers {P : InputIx → Prop} (h : OnlyInputs P s t) (hi : ¬ P i) : AgreeOn i t s :=
  ⟨(h.2 i hi).1, (h.2 i hi).2, h.clock⟩

theorem ofEvents (h : OnlyEvents s t) : AgreeOn i t s := ⟨by rw [h.fronts], by rw [h.rings], h.clock⟩

theorem setFront (h : AgreeOn i s t) {f g : FrontEnd} (e : f = g) : AgreeOn i (s.setFront i f) (t.setFront i g) := by
  subst e
  exact ⟨by simp, h.2.1, h.2.2⟩

theorem modFront (h : AgreeOn i s t) (f : FrontEnd → FrontEnd) : AgreeOn i (s.modFront i f) (t.modFront i f) :=
  setFront h (by rw [h.1])

theorem modRing (h : AgreeOn i s t) (f : Ring → Ring) : AgreeOn i (s.modRing i f) (t.modRing i f) :=
  ⟨h.1, by simp [h.2.1], h.2.2⟩

theorem events {s' t' : State} (h : AgreeOn i s t) (hs : OnlyEvents s s') (ht : OnlyEvents t t') : AgreeOn i s' t' :=
  (ofEvents hs).trans (h.trans (ofEvents ht).symm)

theorem abandonSlot (h : AgreeOn i s t) : AgreeOn i (s.abandonSlot i) (t.abandonSlot i) := by
  unfold State.abandonSlot
  rw [h.1]
  split
  · split
    · exact (h.modRing _).modFront _
    · exact h
  · exact h

theorem completeInvalid (h : AgreeOn i s t) : AgreeOn i (s.completeInvalid i) (t.completeInvalid i) :=
  h.abandonSlot.modFront _

theorem askSlot (h : AgreeOn i s t) (seq : Nat) :
    AgreeOn i (s.askSlot i seq).1 (t.askSlot i seq).1 ∧ (s.askSlot i seq).2 = (t.askSlot i seq).2 := by
  unfold State.askSlot
  rw [h.2.1]
  split
  · exact ⟨h.modRing fun r => r.fill _ seq, rfl⟩
  · exact ⟨h.modFront fun f => f.countEvent .drops, rfl⟩

theorem captureStart (h : AgreeOn i s t) :
    AgreeOn i (s.captureStart i).1 (t.captureStart i).1 ∧ (s.captureStart i).2 = (t.captureStart i).2 := by
  unfold State.captureStart
  rw [h.1]
  simp only
  split
  · exact (h.setFront rfl).askSlot _
  · exact ⟨h, rfl⟩

theorem openFrame (h : AgreeOn i s t) : AgreeOn i (s.openFrame i) (t.openFrame i) := by
  unfold State.openFrame
  simp only
  rw [h.1, h.2.2, h.captureStart.2]
  exact h.captureStart.1.modFront _

theorem frameStart (h : AgreeOn i s t) : AgreeOn i (s.frameStart i) (t.frameStart i) := by
  unfold State.frameStart
  rw [h.1]
  split
  · exact h.completeInvalid.openFrame
  · exact h.openFrame

theorem checkLine (h : AgreeOn i s t) (good : Bool) : AgreeOn i (s.checkLine i good) (t.checkLine i good) := by
  unfold State.checkLine
  rw [h.1]
  simp only
  split
  · exact h.setFront rfl
  · exact (h.setFront rfl).events (OnlyEvents.raiseCheckSync _ _ _) (OnlyEvents.raiseCheckSync _ _ _)

theorem activeLine (h : AgreeOn i s t) (pixels : List Colour) : AgreeOn i (s.activeLine i pixels) (t.activeLine i pixels) := by
  unfold State.activeLine
  rw [h.1]
  split
  · exact h
  · simp only
    split
    · exact ((h.modRing _).modFront _).checkLine _
    · exact (h.modFront _).checkLine _

theorem handOff (h : AgreeOn i s t) (x : FrameInProgress) (kept : Bool) (audio : Option (List Stereo)) :
    AgreeOn i (s.handOff i x kept audio) (t.handOff i x kept audio) := by
  unfold State.handOff
  rw [h.1]
  split
  · simp only
    split
    · exact (h.modRing _).modFront _
    · exact h.modFront _
  · exact h.abandonSlot

theorem frameEnd (h : AgreeOn i s t) (audio : Option (List Stereo)) : AgreeOn i (s.frameEnd i audio) (t.frameEnd i audio) := by
  unfold State.frameEnd
  rw [h.1]
  simp only
  split
  · exact h
  · split
    · exact h.completeInvalid
    · refine AgreeOn.modFront ?_ _
      refine AgreeOn.handOff ?_ _ _ _
      exact (h.setFront rfl).events (State.raiseMonitor_frame i _ _ _) (State.raiseMonitor_frame i _ _ _)

theorem takeRows (h : AgreeOn i s t) (pic : State) (scr : ScreenIx) (rows : List Nat) :
    AgreeOn i (State.takeRows pic scr i rows s) (State.takeRows pic scr i rows t) := by
  unfold State.takeRows
  induction rows generalizing s t with
  | nil => exact h
  | cons r rows ih => exact ih (h.activeLine _)

theorem endLoopedFrame (h : AgreeOn i s t) (pic : State) (scr : ScreenIx) :
    AgreeOn i (State.endLoopedFrame pic scr s i) (State.endLoopedFrame pic scr t i) := by
  unfold State.endLoopedFrame State.loopedFrom
  rw [h.1]
  split
  · exact (h.takeRows _ _ _).frameEnd none
  · exact h

end AgreeOn

/-- A walk over all inputs, each step of which touches its own input and reads no other, does to each input what its own step does. -/
theorem foldl_inputs {f : State → InputIx → State} (hf : ∀ s i, OnlyInputs (· = i) s (f s i))
    (ha : ∀ s t i, AgreeOn i s t → AgreeOn i (f s i) (f t i)) (xs : List InputIx) (hd : xs.Nodup) (s : State) (i : InputIx) :
    AgreeOn i (xs.foldl f s) (if i ∈ xs then f s i else s) := by
  induction xs generalizing s with
  | nil => simpa using AgreeOn.refl
  | cons a xs ih =>
    obtain ⟨hn, hd⟩ := List.nodup_cons.mp hd
    have h := ih hd (f s a)
    rw [List.foldl_cons]
    by_cases e : i = a
    · subst e
      simpa [hn] using h
    · have ho : AgreeOn i (f s a) s := AgreeOn.ofOthers (hf s a) e
      by_cases hi : i ∈ xs
      · simp only [hi, if_true] at h
        simpa [hi] using h.trans (ha _ _ i ho)
      · simp only [hi, if_false] at h
        simpa [hi, e] using h.trans ho

namespace State

/-- The start of a screen's frame at one input: a frame start where the input is looped from the screen, nothing elsewhere (R60, R92). -/
theorem startLoopedFrames_get (s : State) (scr : ScreenIx) (i : InputIx) :
    AgreeOn i (s.startLoopedFrames scr) (if (s.fronts.get i).loop = some scr then s.frameStart i else s) := by
  have h := foldl_inputs (f := fun t i => if t.loopedFrom scr i then t.frameStart i else t)
    (fun t j => by
      split
      · exact frameStart_frame j t
      · exact OnlyInputs.refl t)
    (fun t u j k => by
      unfold State.loopedFrom
      rw [k.1]
      split
      · exact k.frameStart
      · exact k) (List.finRange 12) (List.nodup_finRange 12) s i
  simpa [State.startLoopedFrames, State.loopedFrom] using h

/-- The end of a screen's frame at one input: the rows not yet taken and a frame end where the input is looped from the screen and in a frame, nothing elsewhere (R92). -/
theorem endLoopedFrames_get (s : State) (scr : ScreenIx) (i : InputIx) :
    AgreeOn i (s.endLoopedFrames scr) (State.endLoopedFrame s scr s i) := by
  have h := foldl_inputs (f := State.endLoopedFrame s scr)
    (fun t j => (endLoopedFrame_frame j t s scr).mono fun _ k => k.1)
    (fun _ _ _ k => k.endLoopedFrame s scr) (List.finRange 12) (List.nodup_finRange 12) s i
  simpa [State.endLoopedFrames] using h

end State

end Sys2Proof.Machine
end

