-- ==== Sys2Proof/Laws/PerInstr.lean ====
section
/-! SUPPORT. The family FrameFits: a well-formed command that brings a frame brings a body of 2 to 128 bytes (R159). -/

namespace Sys2Proof.Laws

open Sys2Proof.Machine

theorem frame_fits {kind tag : Byte} {f b : List Byte} (h : fieldsFit f = true) (e : some (kind :: tag :: f) = some b) :
    2 ≤ b.length ∧ b.length ≤ 128 := by
  cases e
  simp only [fieldsFit, decide_eq_true_eq] at h
  simp only [List.length_cons]
  omega

theorem no_frame_fits {b : List Byte} (e : (none : Option (List Byte)) = some b) : 2 ≤ b.length ∧ b.length ≤ 128 := nomatch e

end Sys2Proof.Laws

namespace Sys2Proof.Laws.FrameFits

open Sys2Proof Sys2Proof.Machine

def Statement (i : Instr) : Prop := i.wellFormed = true → ∀ b, frameBody i = some b → 2 ≤ b.length ∧ b.length ≤ 128

theorem powerOn (rank : Rank) (rateA rateB : LineRate) : Statement (.powerOn rank rateA rateB) := fun _ _ e => no_frame_fits e
theorem setMain (l : Link) (tag : Byte) (fields : List Byte) : Statement (.setMain l tag fields) := fun h _ e => frame_fits h e
theorem setInset (l : Link) (tag : Byte) (fields : List Byte) : Statement (.setInset l tag fields) := fun h _ e => frame_fits h e
theorem clearInset (l : Link) (tag : Byte) (fields : List Byte) : Statement (.clearInset l tag fields) := fun h _ e => frame_fits h e
theorem clearScreen (l : Link) (tag : Byte) (fields : List Byte) : Statement (.clearScreen l tag fields) := fun h _ e => frame_fits h e
theorem swap (l : Link) (tag : Byte) (fields : List Byte) : Statement (.swap l tag fields) := fun h _ e => frame_fits h e
theorem setScreen (l : Link) (tag : Byte) (fields : List Byte) : Statement (.setScreen l tag fields) := fun h _ e => frame_fits h e
theorem group (l : Link) (tag : Byte) (fields : List Byte) : Statement (.group l tag fields) := fun h _ e => frame_fits h e
theorem pin (l : Link) (tag : Byte) (fields : List Byte) : Statement (.pin l tag fields) := fun h _ e => frame_fits h e
theorem unpin (l : Link) (tag : Byte) (fields : List Byte) : Statement (.unpin l tag fields) := fun h _ e => frame_fits h e
theorem setInput (l : Link) (tag : Byte) (fields : List Byte) : Statement (.setInput l tag fields) := fun h _ e => frame_fits h e
theorem setZone (l : Link) (tag : Byte) (fields : List Byte) : Statement (.setZone l tag fields) := fun h _ e => frame_fits h e
theorem snapshotCounters (l : Link) (tag : Byte) (fields : List Byte) : Statement (.snapshotCounters l tag fields) := fun h _ e => frame_fits h e
theorem readScreen (l : Link) (tag : Byte) (fields : List Byte) : Statement (.readScreen l tag fields) := fun h _ e => frame_fits h e
theorem readWindow (l : Link) (tag : Byte) (fields : List Byte) : Statement (.readWindow l tag fields) := fun h _ e => frame_fits h e
theorem readInput (l : Link) (tag : Byte) (fields : List Byte) : Statement (.readInput l tag fields) := fun h _ e => frame_fits h e
theorem readZone (l : Link) (tag : Byte) (fields : List Byte) : Statement (.readZone l tag fields) := fun h _ e => frame_fits h e
theorem readPool (l : Link) (tag : Byte) (fields : List Byte) : Statement (.readPool l tag fields) := fun h _ e => frame_fits h e
theorem readCounters (l : Link) (tag : Byte) (fields : List Byte) : Statement (.readCounters l tag fields) := fun h _ e => frame_fits h e
theorem readLink (l : Link) (tag : Byte) (fields : List Byte) : Statement (.readLink l tag fields) := fun h _ e => frame_fits h e
theorem identify (l : Link) (tag : Byte) (fields : List Byte) : Statement (.identify l tag fields) := fun h _ e => frame_fits h e
theorem takeEvents (l : Link) (tag : Byte) (fields : List Byte) : Statement (.takeEvents l tag fields) := fun h _ e => frame_fits h e
theorem setEvents (l : Link) (tag : Byte) (fields : List Byte) : Statement (.setEvents l tag fields) := fun h _ e => frame_fits h e
theorem wallReset (l : Link) (tag : Byte) (fields : List Byte) : Statement (.wallReset l tag fields) := fun h _ e => frame_fits h e
theorem linkReset (l : Link) (tag : Byte) (fields : List Byte) : Statement (.linkReset l tag fields) := fun h _ e => frame_fits h e
theorem unknownKind (l : Link) (kind tag : Byte) (fields : List Byte) : Statement (.unknownKind l kind tag fields) := fun h _ e => frame_fits (Bool.and_eq_true_iff.mp h).1 e
theorem applySetMain : Statement (.applySetMain) := fun _ _ e => no_frame_fits e
theorem applySetInset : Statement (.applySetInset) := fun _ _ e => no_frame_fits e
theorem applyClearInset : Statement (.applyClearInset) := fun _ _ e => no_frame_fits e
theorem applyClearScreen : Statement (.applyClearScreen) := fun _ _ e => no_frame_fits e
theorem applySwap : Statement (.applySwap) := fun _ _ e => no_frame_fits e
theorem applySetScreen : Statement (.applySetScreen) := fun _ _ e => no_frame_fits e
theorem applyGroup : Statement (.applyGroup) := fun _ _ e => no_frame_fits e
theorem applyPin : Statement (.applyPin) := fun _ _ e => no_frame_fits e
theorem applyUnpin : Statement (.applyUnpin) := fun _ _ e => no_frame_fits e
theorem applySetInput : Statement (.applySetInput) := fun _ _ e => no_frame_fits e
theorem applySetZone : Statement (.applySetZone) := fun _ _ e => no_frame_fits e
theorem applySnapshotCounters : Statement (.applySnapshotCounters) := fun _ _ e => no_frame_fits e
theorem answerEvent (l : Link) : Statement (.answerEvent l) := fun _ _ e => no_frame_fits e
theorem oneSecondTick : Statement (.oneSecondTick) := fun _ _ e => no_frame_fits e
theorem pinLapsed (scr : ScreenIx) : Statement (.pinLapsed scr) := fun _ _ e => no_frame_fits e
theorem holdExpired (scr : ScreenIx) : Statement (.holdExpired scr) := fun _ _ e => no_frame_fits e
theorem arrival (l : Link) (wait : Nat) (byte : Byte) (stop : Bool) : Statement (.arrival l wait byte stop) := fun _ _ e => no_frame_fits e
theorem interByteTimeout (l : Link) : Statement (.interByteTimeout l) := fun _ _ e => no_frame_fits e
theorem lineBreak (l : Link) : Statement (.lineBreak l) := fun _ _ e => no_frame_fits e
theorem transmissionEnd (l : Link) : Statement (.transmissionEnd l) := fun _ _ e => no_frame_fits e
theorem frameStart (i : InputIx) (wait : Nat) : Statement (.frameStart i wait) := fun _ _ e => no_frame_fits e
theorem activeLine (i : InputIx) (pixels : List Colour) : Statement (.activeLine i pixels) := fun _ _ e => no_frame_fits e
theorem frameEnd (i : InputIx) (audio : Option (List Stereo)) : Statement (.frameEnd i audio) := fun _ _ e => no_frame_fits e
theorem acquisitionTimerExpiry (i : InputIx) : Statement (.acquisitionTimerExpiry i) := fun _ _ e => no_frame_fits e
theorem missIntervalExpiry (i : InputIx) : Statement (.missIntervalExpiry i) := fun _ _ e => no_frame_fits e
theorem slateHoldExpiry (i : InputIx) : Statement (.slateHoldExpiry i) := fun _ _ e => no_frame_fits e
theorem samplePeriod (an : Sample) : Statement (.samplePeriod an) := fun _ _ e => no_frame_fits e
theorem blockJudgement : Statement (.blockJudgement) := fun _ _ e => no_frame_fits e
theorem boundary (scr : ScreenIx) : Statement (.boundary scr) := fun _ _ e => no_frame_fits e

end Sys2Proof.Laws.FrameFits
end

