-- ==== Sys2Proof/Laws/Step.lean ====
section
/-! SUPPORT. What a step does when no command waits: the first event due, or one reference period (log 1, log 6). -/

namespace Sys2Proof.Machine

/-- With none of the clock's events due, one reference period passes. -/
theorem idle_of_none (s : State) (h : ∀ c ∈ clockEvents, s.due c = false) : s.idle = .next (s.elapse 1) := by
  have : s.nextDue = none := List.find?_eq_none.2 fun c hc => by simp [h c hc]
  simp [State.idle, this]

/-- The first of the clock's events that is due is taken. -/
theorem idle_of_due (s : State) {before after : List Instr} {e : Instr} (hl : clockEvents = before ++ e :: after)
    (he : s.due e = true) (hb : ∀ c ∈ before, s.due c = false) : s.idle = exec e s := by
  have : s.nextDue = some e := by
    unfold State.nextDue firstDue
    rw [hl, List.find?_append, List.find?_eq_none.2 fun c hc => by simp [hb c hc]]
    simp [he]
  simp [State.idle, this]

theorem step_of_empty (s : State) (h : s.pending = []) : step s = s.idle := by simp [step, h]

end Sys2Proof.Machine
end

