-- ==== Sys2Proof/Tests/Slice0.lean ====
section
/-! SUPPORT. The model's own tests: ill-formed commands, the spec's worked cases, single steps on small states, and for every statement with hypotheses a state that meets them. -/

namespace Sys2Proof.Tests

open Sys2Proof Sys2Proof.Machine

set_option Elab.async false

/-! ## Helpers -/

/-- The state after a command; the state before it when the command stops. -/
def after (c : Instr) (s : State) : State :=
  match exec c s with
  | .next t => t
  | .fault _ => s
  | .refused _ => s

/-- The part right after reset, with one link replaced. -/
def withA (x : LinkState) : State := { State.reset with linkA := x }

/-- A link that holds nothing, at 115,200 baud. -/
def idleLink : LinkState := .powerOn .baud115200

/-- A state in which application takes one edit of Link A. -/
def queued (e : Edit) : State := withA { idleLink with edits := [e] }

def pinnedBy (s : State) (l : Link) (scr : ScreenIx) : State :=
  { s with pins := s.pins.set scr { owner := some l, lapse := 1 } }

def heldBy (s : State) (l : Link) (scr : ScreenIx) : State :=
  { s with holds := s.holds.set scr { holder := some l, ms := 1000 } }

def front0 (f : FrontEnd) : State := { State.reset with fronts := State.reset.fronts.set 0 f }

/-- The frame of 640 × 360 lines that is about to end, with a valid period. -/
def goodFrame : FrameInProgress :=
  { start := 0, period := some 450000, firstWidth := some 640, lines := 360, lineError := false, startedPresent := true
    slot := some 1 }

def goodFormat : Format := { width := 640, height := 360, period := 450000 }

/-- An input in PRESENT at the end of a good frame. -/
def presentFront : FrontEnd :=
  { FrontEnd.powerOn with
    monitor := .present, latched := some goodFormat, missLeft := some 562500, slate := .idle, frame := some goodFrame }

/-! ## Ill-formed commands -/

theorem test_fields_longer_than_a_frame : (Instr.setMain .a 1 (List.replicate 127 0)).wellFormed = false := by decide +kernel
theorem test_fields_as_long_as_a_frame : (Instr.setMain .a 1 (List.replicate 126 0)).wellFormed = true := by decide +kernel
theorem test_query_longer_than_a_frame : (Instr.readPool .b 1 (List.replicate 127 0)).wellFormed = false := by decide +kernel
theorem test_unknown_kind_longer_than_a_frame : (Instr.unknownKind .a 0x40 1 (List.replicate 127 0)).wellFormed = false := by
  decide +kernel
theorem test_known_kind_as_unknown : (Instr.unknownKind .a 0x30 1 []).wellFormed = false := by decide
theorem test_line_without_pixels : (Instr.activeLine 0 []).wellFormed = false := by decide
theorem test_no_word_spells_a_command : decodeTableWord 32 0 = none ∧ State.reset.withFetchWord 32 0 = State.reset := by
  exact ⟨rfl, rfl⟩

/-! ## The spec's worked cases: planner (02) -/

theorem test_inset_cut_by_the_right_edge :
    let q := scaledPlacement 0 1280 0 720 ⟨1500, 60, 480, 270⟩
    step1 1280 480 = 10923 ∧ step1 720 270 = 10923 ∧ q.picture = ⟨1500, 60, 480, 270⟩ ∧
      q.visible = ⟨1500, 60, 420, 270⟩ ∧ q.x.phase = 0 ∧ q.y.phase = 0 := by decide

theorem test_coarse_picture_of_that_inset :
    coarseFactor 1280 720 480 270 = 4 ∧
      (coarsePlacement 0 1280 0 720 ⟨1500, 60, 480, 270⟩).visible = ⟨1580, 105, 320, 180⟩ := by decide

theorem test_inset_cut_by_the_left_edge :
    let q := scaledPlacement 0 1920 0 1080 ⟨-200, 100, 960, 540⟩
    exactStep (step1 1920 960) = true ∧ q.visible = ⟨0, 100, 760, 540⟩ ∧ q.x.phase = 1638400 ∧ q.y.phase = 0 := by decide

theorem test_enlargement_clamp :
    let q := scaledPlacement 560 160 315 90 canvas
    rawStep 160 1920 = 341 ∧ step1 160 1920 = 512 ∧ q.picture = ⟨320, 180, 1280, 720⟩ ∧ q.visible = q.picture ∧
      q.x.phase = 2293760 ∧ q.y.phase = 1290240 ∧
      (coarsePlacement 560 160 315 90 canvas).picture = ⟨880, 495, 160, 90⟩ := by decide

theorem test_reduction_clamp :
    let q := scaledPlacement 0 1920 0 1080 ⟨1800, 990, 200, 100⟩
    rawStep 1920 200 = 39322 ∧ rawStep 1080 100 = 44237 ∧ step1 1080 100 = 32768 ∧ q.visible = ⟨1800, 990, 120, 90⟩ ∧
      q.x.phase = 655360 ∧ q.y.phase = 573440 := by decide

theorem test_tall_narrow_inset_in_coarse_service :
    coarseFactor 1920 1080 100 400 = 8 ∧
      (coarsePlacement 0 1920 0 1080 ⟨100, 300, 100, 400⟩).picture = ⟨100, 432, 100, 135⟩ ∧
      (coarsePlacement 0 1920 0 1080 ⟨100, 300, 100, 400⟩).x.phase = 560 * 4096 := by decide

theorem test_coarse_picture_off_the_canvas :
    let q := scaledPlacement 0 1280 0 720 ⟨-400, 0, 480, 270⟩
    q.visible = ⟨0, 0, 80, 270⟩ ∧ q.x.phase = 4369200 ∧
      (coarsePlacement 0 1280 0 720 ⟨-400, 0, 480, 270⟩).empty = true := by decide

theorem test_crop_ignored_then_applied :
    effectiveCrop 1280 700 600 = ⟨0, 1280, true⟩ ∧ effectiveCrop 1920 700 600 = ⟨700, 620, false⟩ ∧
      step1 620 1920 = 1323 ∧ step1 1080 1080 = 4096 := by decide

/-- A step one crop width away from a power of two (R23). -/
theorem test_raw_step_beside_a_power_of_two : rawStep 959 480 = 8183 := by decide

/-! ## Pixels (02, 04) -/

theorem test_interpolation : mixPair 400 560 5 = 450 ∧ mixPair 480 640 5 = 530 ∧ mixPair 450 530 10 = 500 := by decide
theorem test_box_average : average [100, 104, 101, 106] = 103 := by decide
theorem test_blend : blend 128 900 300 = 600 ∧ blend 128 0 300 = 150 := by decide
theorem test_patterns :
    rampPixel 1000 10 = ⟨16, 16, 16⟩ ∧ barColour (240 / 240) = ⟨1023, 1023, 0⟩ ∧ idCardPixel 8 840 340 = true ∧
      idCardPixel 12 1000 400 = false := by decide

/-! ## Audio (08) -/

theorem test_rounding : round1024 (9100000000) = 8886719 ∧ round1024 7800000000 = 7617188 ∧
    round1024 (-7800000000) = -7617188 ∧ round1024 (-978008000) = -955086 := by decide
theorem test_saturation : saturate 8886719 = 8388607 ∧ saturate (-8388609) = -8388608 ∧ saturate 7617188 = 7617188 := by
  decide

/-! ## The line (09, 11) -/

theorem test_identify_envelope : envelope [0x30, 0x05] = [0x7E, 2, 0x30, 5, 0xC9] := by decide

/-- The bytes of IDENTIFY on the line are the request (R159). -/
theorem test_identify_by_characters :
    (execAll (arrivals .a (envelope [0x30, 0x05])) State.reset).map (fun s => s.linkA.replies) =
      some (after (.identify .a 5 []) State.reset).linkA.replies := by decide +kernel

/-- A damaged length makes a bad check; the rescan finds the frame behind it (R160). -/
theorem test_damaged_length_is_recovered :
    (execAll (arrivals .b ([0x7E, 7, 0x24, 9, 0xD1] ++ envelope [0x30, 0x05])) State.reset).map
        (fun s => (s.linkB.replies.length, s.linkB.errors.badCheck)) = some (1, 1) := by decide +kernel

/-! ## Steps of the families -/

theorem test_edit_is_queued :
    (after (.pin .a 7 [3, 5]) State.reset).linkA.edits = [.pin 2 5] ∧
      (after (.pin .a 7 [3, 5]) State.reset).linkA.replies = [[0x80, 7, 0x17]] := by decide +kernel

theorem test_bad_index_is_refused : (after (.pin .a 7 [17, 5]) State.reset).linkA.replies = [[0x81, 7, 0x17, 3]] := by
  decide +kernel

theorem test_query_waits_for_its_answer :
    (after (.answerEvent .a) (after (.readLink .a 9 []) State.reset)).linkA.replies.map List.length = [3, 17] := by
  decide +kernel

theorem test_set_main_is_applied :
    ((after .applySetMain (queued (.setMain false 4 { source := some 2, crop := .zero }))).staged.get 4).main.source =
      some 2 := by decide +kernel

theorem test_pinned_screen_refuses :
    (after .applyClearScreen (pinnedBy (queued (.clearScreen false 4)) .b 4)).linkA.record =
      some { kind := 0x13, screen := 4, reason := .pinned } := by decide +kernel

theorem test_held_screen_refuses_a_hold_edit :
    (after .applyClearScreen (heldBy (queued (.clearScreen true 4)) .b 4)).linkA.record =
      some { kind := 0x13, screen := 4, reason := .held } := by decide +kernel

theorem test_application_of_another_kind_does_nothing : after .applySwap (queued (.unpin 3)) = queued (.unpin 3) := rfl

theorem test_second_tick_lowers_a_lapse :
    let s := { State.reset with pins := State.reset.pins.set 3 { owner := some .a, lapse := 60 } }
    (after .oneSecondTick s).pins.get 3 = { owner := some .a, lapse := 59 } := by decide +kernel

theorem test_pin_lapses_in_its_tick :
    let t := after .oneSecondTick (pinnedBy .reset .a 3)
    t.pins.get 3 = .clear ∧ t.linkA.events.latches.get 7 = true ∧ t.linkB.events.latches.get 7 = false := by decide +kernel

/-- A pin lapses at the tick that its timer names, whatever command asks for it. -/
theorem test_pin_lapsed_waits_for_its_tick :
    let s := { State.reset with clock := 5, pins := State.reset.pins.set 3 { owner := some .b, lapse := 2 } }
    (after (.pinLapsed 3) s).clock = 54000000 ∧ (after (.pinLapsed 3) s).pins.get 3 = .clear := by decide +kernel

theorem test_hold_expires_after_its_time :
    (after (.holdExpired 3) (heldBy .reset .a 3)).clock = 27000000 ∧
      (after (.holdExpired 3) (heldBy .reset .a 3)).holds.get 3 = .clear := by decide +kernel

theorem test_first_good_frame_is_acquired :
    ((after (.frameEnd 0 none) (front0 { FrontEnd.powerOn with frame := some { goodFrame with slot := none } })).fronts.get
      0).monitor = .acquiring := by decide +kernel

theorem test_dropped_sync_is_an_invalid_frame :
    ((after (.frameEnd 0 none)
      (front0 { FrontEnd.powerOn with counterKind := .invalidFrames, frame := some { goodFrame with lines := 359, slot := none } })).fronts.get
      0).count = 1 := by decide +kernel

theorem test_sample_fills_the_block :
    (after (.samplePeriod (-5)) State.reset).detector.peak = 5 ∧ (after (.samplePeriod (-5)) State.reset).detector.pos = 1 := by
  decide +kernel

theorem test_first_boundary_begins_a_frame :
    ((after (.boundary 6) State.reset).comps.get 6).timing = .running 450000 450000 false := by decide +kernel

/-- A main window of 1920 × 1080 fill needs no scaler; a cropped one takes the lowest scaler (R30, R41, R43). -/
theorem test_cropped_main_window_takes_a_scaler :
    let record := { ScreenRecord.powerOn with main := { source := some 0, crop := ⟨100, 0, 0, 0⟩ } }
    let s : State := { State.reset with staged := State.reset.staged.set 0 record }
    (after (.boundary 0) s).pool.scalers.get 0 = .active 0 ∧
      (((after (.boundary 0) s).comps.get 0).plans.get 0).service = .scaled := by decide +kernel

theorem test_idle_part_counts_its_clock : (match step State.reset with | .next t => t.clock | _ => 0) = 1 := by
  decide +kernel

/-! ## A state for every statement's hypotheses -/

theorem reset_ready (l : Link) : State.reset.ready l := by cases l <;> exact ⟨by decide +kernel, by decide +kernel⟩

/-- A link with as many edits, replies and pending queries as the statements ask for. -/
def busyLink (edits replies : Nat) (q : QuerySlot) (barrier : Option Nat) : LinkState :=
  { idleLink with
    edits := List.replicate edits (.unpin 15), replies := List.replicate replies [0x85, 0], query := q, barrier := barrier }

theorem test_witness_StepRunsTheFrontCommand :
    { State.reset with pending := [.oneSecondTick] }.pending = .oneSecondTick :: [] := rfl

theorem test_witness_EditRequestIsQueuedAndAcknowledged :
    (withA (busyLink 7 3 .empty none)).ready .a ∧ EditKind.pin.lengthOk [3, 5] = true ∧
      (match readEdit .pin [3, 5] with | .ok e => e = .pin 2 5 | .error _ => False) ∧
      ((withA (busyLink 7 3 .empty none)).link .a).edits.length < 8 :=
  ⟨⟨by decide +kernel, by decide +kernel⟩, by decide, rfl, by decide +kernel⟩

theorem test_witness_RefusedRequestsChangeNothingElse_fields :
    State.reset.ready .a ∧ (RequestKind.query .readPool).lengthOk [1] = false ∧
      EditKind.pin.lengthOk [17, 5] = true ∧ (match readEdit .pin [17, 5] with | .ok _ => False | .error r => r = .badIndex) ∧
      QueryKind.readScreen.lengthOk [0] = true ∧ readQuery .readScreen [0] = none :=
  ⟨reset_ready .a, by decide, by decide, rfl, by decide, by decide⟩

theorem test_set_zone_lengths :
    let f := fun n length : Nat => List.replicate 16 0 ++ BitVec.ofNat 8 n :: List.replicate (length - 19) (0 : Byte)
    RequestKind.lengthOk (f 0 19) (.edit .setZone) = true ∧ RequestKind.lengthOk (f 4 31) (.edit .setZone) = true ∧
      RequestKind.lengthOk (f 4 28) (.edit .setZone) = false ∧ RequestKind.lengthOk (f 5 34) (.edit .setZone) = false := by
  decide

/-- A latch drives the attention line when its kind is enabled, and not when another is. -/
theorem test_attention_line :
    let e := EventState.powerOn.latch .inputState (some 3)
    let enabled := fun k : Fin 12 => { e with enables := (Table.fill 12 false).set k true }
    (enabled 0).attention = true ∧ (enabled 1).attention = false ∧ e.attention = false ∧ e.sets.get 0 = 8#16 := by decide

theorem test_witness_RefusedRequestsChangeNothingElse_full :
    (withA (busyLink 8 3 (.waiting 0 .pool) (some 8))).ready .a ∧
      8 ≤ ((withA (busyLink 8 3 (.waiting 0 .pool) (some 8))).link .a).edits.length ∧
      QueryKind.readPool.lengthOk [] = true ∧ readQuery .readPool [] = some .pool ∧
      ((withA (busyLink 8 3 (.waiting 0 .pool) (some 8))).link .a).query ≠ .empty ∧
      ({ State.reset with rank := .bSenior } : State).ready .a ∧
      senior ({ State.reset with rank := .bSenior } : State).rank (Link.a).other = true :=
  ⟨⟨by decide +kernel, by decide +kernel⟩, by decide +kernel, by decide, by decide, by decide +kernel,
    ⟨by decide +kernel, by decide +kernel⟩, by decide⟩

theorem test_witness_QueryRequestIsAccepted :
    State.reset.ready .b ∧ QueryKind.readWindow.lengthOk [64] = true ∧ readQuery .readWindow [64] = some (.window 63) ∧
      (State.reset.link .b).query = .empty :=
  ⟨reset_ready .b, by decide, by decide, by decide +kernel⟩

/-- IDENTIFY, TAKE_EVENTS, SET_EVENTS and LINK_RESET ask for a ready link, WALL_RESET for one that is not junior. -/
theorem test_witness_ImmediateRequests :
    State.reset.ready .a ∧ ((1 : Byte).toNat ≤ 1 ∧ (0 : Byte).toNat ≤ 1 ∧ (1 : Byte).toNat ≤ 1) ∧
      (¬ ((1 : Byte).toNat ≤ 1 ∧ (2 : Byte).toNat ≤ 1 ∧ (0 : Byte).toNat ≤ 1)) ∧
      senior State.reset.rank (Link.a).other = false :=
  ⟨reset_ready .a, by decide, by decide, by decide⟩

theorem test_witness_UnknownKindIsRefused :
    State.reset.ready .a ∧ isRequestCode 0x0F = false ∧ isRequestCode 0x27 = false ∧ isRequestCode 0x35 = false :=
  ⟨reset_ready .a, by decide, by decide, by decide⟩

theorem test_witness_FullReplyQueueHoldsTheFrame :
    ((withA (busyLink 0 4 .empty none)).link .a).quiet = true ∧
      4 ≤ ((withA (busyLink 0 4 .empty none)).link .a).replies.length := by decide +kernel

theorem test_witness_AcceptedEditsAreInRange :
    EditKind.pin.lengthOk [16, 255] = true ∧
      (match readEdit .pin [16, 255] with | .ok e => e = .pin 15 240 | .error _ => False) := ⟨by decide, rfl⟩

/-- The last screen, inset, input, source and zone that a request can name, and fields at the ends of their ranges. -/
theorem test_witness_AcceptedEditsAreInRange_layouts :
    16 = (15 : ScreenIx).val + 1 ∧ 3 = (2 : InsetIx).val + 1 ∧ 12 = (11 : InputIx).val + 1 ∧ 4 = (3 : ZoneIx).val + 1 ∧
      12 = number (some (11 : InputIx)) ∧ 0 = number (none : Option InputIx) ∧ 16 = number (some (15 : ScreenIx)) ∧
      10 ≤ (11 : InputIx).val ∧ [13, 12] = [AudioSource.an, .input 11].map sourceNumber ∧
      [AudioSource.an, .input 11].Nodup ∧ ¬ ([13, 13] : List Nat).Nodup ∧
      Fits ([(1, 255), (1, 16), (1, 12)] ++ cropFields 65535 0 1064 1065) ∧
      Fits ([(1, 1), (1, 16), (1, 3), (1, 12)] ++ cropFields 0 0 0 0 ++
        [(2, 32768), (2, 32767), (2, 15), (2, 65535), (2, 257), (1, 255)] ++ colourFields 1024 1023 0) ∧
      Fits ([(1, 0), (1, 16), (1, 2), (1, 2), (1, 1), (1, 4)] ++ colourFields 0 0 65535) ∧
      Fits ([(1, 12), (1, 1), (1, 1), (1, 61)] ++ colourFields 0 0 0 ++ [(1, 16), (1, 1), (1, 3), (1, 1)]) ∧
      Fits ([(1, 4), (1, 2), (1, 16), (2, 1025), (1, 201), (1, 1), (2, 1025), (2, 2049), (3, 16777215), (1, 0), (1, 0),
        (1, 2)] ++ [(13, 2049), (12, 0)].flatMap fun c => [(1, c.1), (2, c.2)]) ∧
      Fits [(2, 4095)] ∧ Fits [(2, 4096)] := by
  unfold Fits
  decide

theorem test_witness_GroupChecksComeInOrder :
    (0 : ScreenIx) ≤ 15 ∧ Fits ((1, 255) :: cropFields 0 65535 0 1) := by
  unfold Fits
  decide

theorem test_set_main_reads_its_fields :
    (readEdit .setMain (layout ([(1, 3), (1, 16), (1, 12)] ++ cropFields 258 0 0 2000))).toOption =
      some (.setMain true 15 { source := some 11, crop := ⟨258, 0, 0, 1064⟩ }) := by decide +kernel

/-- Both links with an edit; Link A's is behind no barrier. -/
def bothQueued : State :=
  { State.reset with
    linkA := { idleLink with edits := [.unpin 1] }, linkB := { idleLink with edits := [.unpin 2] } }

theorem test_witness_AlternationChoosesTheLink :
    (((queued (.unpin 1)).link .a).edits.head? = some (.unpin 1) ∧ ((queued (.unpin 1)).link .a).barrier ≠ some 0 ∧
        ((queued (.unpin 1)).link .b).edits.head? = none) ∧
      ((bothQueued.link .a).edits.head? = some (.unpin 1) ∧ (bothQueued.link .b).edits.head? = some (.unpin 2) ∧
        bothQueued.marker = (Link.a).other) ∧
      ((withA (busyLink 1 0 (.waiting 0 .link) (some 0))).link .a).barrier = some 0 ∧
        ((withA (busyLink 1 0 (.waiting 0 .link) (some 0))).link .b).edits.head? = none := by decide +kernel

theorem not_stopped (e : Edit) (scr : ScreenIx) (hold : Bool) :
    ¬ (queued e).PinStops .a scr ∧ ¬ (queued e).HoldStops .a scr hold := by
  have hp : (queued e).pins.get scr = .clear := by simp [queued, withA, State.reset, State.afterPowerOn]
  have hh : (queued e).holds.get scr = .clear := by simp [queued, withA, State.reset, State.afterPowerOn]
  constructor
  · intro h
    have := h.1
    rw [hp] at this
    cases this
  · intro h
    have := h.2
    rw [hh] at this
    cases this

/-- An edit of Link A alone is the one taken. -/
theorem queued_chosen (e : Edit) : (queued e).chosen = some (.a, e) := rfl

theorem test_witness_LayoutEditsWriteTheirScreen :
    (queued (.setMain true 15 { source := some 11, crop := ⟨1904, 0, 0, 1064⟩ })).chosen =
        some (.a, .setMain true 15 { source := some 11, crop := ⟨1904, 0, 0, 1064⟩ }) ∧
      (queued (.setInset false 0 2 .powerOn)).chosen = some (.a, .setInset false 0 2 .powerOn) ∧
      (queued (.clearInset false 0 0)).chosen = some (.a, .clearInset false 0 0) ∧
      (queued (.clearScreen true 0)).chosen = some (.a, .clearScreen true 0) ∧
      (queued (.swap false 7 1)).chosen = some (.a, .swap false 7 1) ∧
      ¬ (queued (.swap false 7 1)).PinStops .a 7 ∧ ¬ (queued (.swap false 7 1)).HoldStops .a 7 false :=
  ⟨rfl, rfl, rfl, rfl, rfl, not_stopped _ _ _⟩

/-- A screen in STANDBY with its Staged flag on, and the edit that turns it off. -/
def asleep : State :=
  let x : Settings := { ScreenRecord.powerOn.settings with standby := true }
  { queued (.setScreen false 3 ScreenRecord.powerOn.settings) with
    staged := State.reset.staged.set 3 { ScreenRecord.powerOn with settings := x }
    comps := State.reset.comps.set 3 { Compositor.powerOn with run := .standby, timing := .stopped } }

theorem test_witness_SetScreenWritesSettingsAndWakes :
    asleep.chosen = some (.a, .setScreen false 3 ScreenRecord.powerOn.settings) ∧
      ((asleep.staged.get 3).settings.standby = true ∧ ScreenRecord.powerOn.settings.standby = false ∧
        (asleep.comps.get 3).run = .standby) ∧
      ¬ (((queued (.setScreen true 3 ScreenRecord.powerOn.settings)).staged.get 3).settings.standby = true) ∧
      (asleep.pins.get 3).owner = none ∧ (asleep.holds.get 3).holder = none := by
  exact ⟨rfl, by decide +kernel, by decide +kernel, by decide +kernel, by decide +kernel⟩

/-- I12 is looped from the screen that sleeps. -/
def loopedAsleep (e : Edit) : State :=
  { asleep with
    linkA := (queued e).linkA, fronts := State.reset.fronts.set 11 { FrontEnd.powerOn with loop := some 3 } }

theorem test_wake_begins_a_looped_frame :
    let t := after .applySetScreen (loopedAsleep (.setScreen false 3 ScreenRecord.powerOn.settings))
    ((t.fronts.get 11).frame.map fun x => x.lines) = some 0 ∧ (t.comps.get 3).timing = .running 450000 450000 true := by
  decide +kernel

theorem test_wall_reset_begins_a_looped_frame :
    ((after (.wallReset .a 0 []) (loopedAsleep (.unpin 0))).fronts.get 11).frame.isSome = true := by decide +kernel

/-- Inputs looped from a screen in STANDBY, and from one that is not. -/
theorem test_witness_WallResetSetsAndKeeps :
    (loopedAsleep (.unpin 0)).ready .a ∧ senior (loopedAsleep (.unpin 0)).rank (Link.a).other = false ∧
      ((loopedAsleep (.unpin 0)).fronts.get 11).loop = some 3 ∧
      ((loopedAsleep (.unpin 0)).comps.get 3).timing = .stopped ∧
      ((loopedAsleep (.unpin 0)).fronts.get 0).loop = none :=
  ⟨⟨by decide +kernel, by decide +kernel⟩, by decide, by decide +kernel, by decide +kernel, by decide +kernel⟩

theorem test_witness_GateRefusesPinnedAndHeldScreens :
    (pinnedBy (queued (.swap true 7 1)) .b 7).chosen = some (.a, .swap true 7 1) ∧
      (Edit.swap true 7 1).screenPart = some (true, 7) ∧ (pinnedBy (queued (.swap true 7 1)) .b 7).PinStops .a 7 ∧
      ((heldBy (queued (.swap true 7 1)) .b 7).pins.get 7).owner = none ∧
      (heldBy (queued (.swap true 7 1)) .b 7).HoldStops .a 7 true :=
  ⟨rfl, rfl, ⟨by decide +kernel, by decide⟩, by decide +kernel, ⟨rfl, by decide +kernel⟩⟩

theorem test_witness_PinByOwnerAndRank :
    (1 ≤ (1 : Byte).toNat ∧ (16 : Byte).toNat ≤ 16) ∧
    (queued (.pin 0 240)).chosen = some (.a, .pin 0 240) ∧ ((queued (.pin 0 240)).pins.get 0).owner = none ∧
      ((pinnedBy (queued (.pin 0 0)) .a 0).pins.get 0).owner = some .a ∧
      ((pinnedBy (queued (.pin 0 0)) .b 0).pins.get 0).owner = some (Link.a).other ∧
      senior Rank.aSenior .a = true ∧ senior Rank.equal .a = false := by decide +kernel

theorem test_witness_UnpinByOwnerAndRank :
    (queued (.unpin 15)).chosen = some (.a, .unpin 15) ∧ ((queued (.unpin 15)).pins.get 15).owner = none ∧
      ((pinnedBy (queued (.unpin 15)) .a 15).pins.get 15).owner = some .a ∧
      ((pinnedBy (queued (.unpin 15)) .b 15).pins.get 15).owner = some (Link.a).other ∧
      (pinnedBy (queued (.unpin 15)) .b 15).chosen = some (.a, .unpin 15) := by decide +kernel

/-- A GROUP that wakes a screen with an input looped from it. -/
theorem test_witness_GroupWritesTheUnpinnedScreens_wakes :
    let s := loopedAsleep (.group 0 15 false (.standby false))
    s.chosen = some (.a, .group 0 15 false (.standby false)) ∧ (s.fronts.get 11).loop = some 3 ∧
      (s.staged.get 3).settings.standby = true ∧ (s.comps.get 3).run = .standby ∧ (s.pins.get 3).owner = none := by
  decide +kernel

theorem test_witness_GroupWritesTheUnpinnedScreens :
    (pinnedBy (queued (.group 0 15 false (.standby false))) .b 9).chosen =
        some (.a, .group 0 15 false (.standby false)) ∧
      ((pinnedBy (queued (.group 0 15 false (.standby false))) .b 9).pins.get 9).owner = some (Link.a).other := by
  decide +kernel

/-- The settings an input has after power-on. -/
def inputDefaults : InputSettings :=
  { criterion := .steady, slateMode := .fill, holdTime := 0, fillColour := .black, loop := none, checkerOn := false
    counterKind := .drops, snapshotMode := .auto }

theorem test_witness_SetInputWritesEverySetting :
    (queued (.setInput 11 inputDefaults)).chosen = some (.a, .setInput 11 inputDefaults) ∧
      (let f := (queued (.setInput 11 inputDefaults)).fronts.get 11;
        inputDefaults = { criterion := f.criterion, slateMode := f.slateMode, holdTime := f.holdTime
                          fillColour := f.fillColour, loop := f.loop, checkerOn := f.checker != .off
                          counterKind := f.counterKind, snapshotMode := f.snapshotMode }) ∧
      (queued (.setInput 11 { inputDefaults with loop := some 15 })).chosen ≠ none := by decide +kernel

theorem test_witness_SetZoneReplacesTheRecord :
    (queued (.setZone 3 .powerOn { threshold := 0, nd := 1, nc := 255 })).chosen =
      some (.a, .setZone 3 .powerOn { threshold := 0, nd := 1, nc := 255 }) := rfl

/-- SNAPSHOT_COUNTERS of I12 in MANUAL mode, its count having overflowed. -/
def overflowed : State :=
  { queued (.snapshotCounters 0x800) with
    fronts := State.reset.fronts.set 11 { FrontEnd.powerOn with snapshotMode := .manual, count := 65535, countOver := true } }

theorem test_witness_SnapshotCountersTakesManualInputs :
    overflowed.chosen = some (.a, .snapshotCounters 0x800) ∧ (0x800 : BitVec 12).getLsbD 11 = true ∧
      (overflowed.fronts.get 11).snapshotMode = .manual ∧ (overflowed.fronts.get 11).countOver = true ∧
      (queued (.snapshotCounters 0)).chosen = some (.a, .snapshotCounters 0) ∧ (∀ i : InputIx, (0 : BitVec 12).getLsbD i.val = false) := by
  decide +kernel

theorem test_witness_AnswerPlacesTheResult :
    let few := withA (busyLink 0 3 (.waiting 1 .pool) (some 0))
    let full := withA (busyLink 0 4 (.waiting 1 .pool) (some 0))
    ((few.link .a).query = .waiting 1 .pool ∧ (few.link .a).barrier = some 0 ∧ (few.link .a).replies.length < 4) ∧
      (full.link .a).query = .waiting 1 .pool ∧ (full.link .a).barrier = some 0 ∧ 4 ≤ (full.link .a).replies.length := by
  decide +kernel

theorem test_witness_OneSecondTickSnapshotsAndLowersPins :
    (State.reset.fronts.get 0).snapshotMode = .auto ∧ (overflowed.fronts.get 11).snapshotMode = .manual ∧
      (State.reset.pins.get 0).lapse = 0 ∧ ((pinnedBy .reset .a 0).pins.get 0).lapse = 1 := by decide +kernel

theorem test_witness_LapseAndExpiryRelease :
    (State.reset.pins.get 3).owner = none ∧ ((pinnedBy .reset .a 3).pins.get 3).owner = some .a ∧
      ((pinnedBy .reset .a 3).pins.get 3).lapse = 0 + 1 ∧ ((heldBy .reset .b 3).holds.get 3).holder = some .b := by
  decide +kernel

/-- Nothing is due right after reset; a hold that has run out is the first event due when those before it in the part's own order are not. -/
theorem test_witness_LapseAndExpiryRelease_idle :
    State.reset.pending = [] ∧ (∀ c ∈ clockEvents, State.reset.due c = false) ∧
      (let s := { State.reset with holds := State.reset.holds.set 3 { holder := some .b, ms := 0 } }
       clockEvents = (List.finRange 3).map (fun n => Instr.holdExpired (n.castLE (by decide))) ++ .holdExpired 3 ::
         clockEvents.drop 4 ∧
       s.due (.holdExpired 3) = true ∧ ∀ n : Fin 3, s.due (.holdExpired (n.castLE (by decide))) = false) := by
  decide +kernel

/-- A time without a one-second tick, and one with. -/
theorem test_witness_LapseAndExpiryRelease_times :
    (State.reset.clock + 26999999) / 27000000 = State.reset.clock / 27000000 ∧
      ((pinnedBy .reset .a 3).elapse 26999999).pins = (pinnedBy .reset .a 3).pins ∧
      ((pinnedBy .reset .a 3).elapse 27000000).pins.get 3 = { owner := none, lapse := 0 } := by decide +kernel

/-- A millisecond tick lowers a hold's timer (log 1). -/
theorem test_hold_counts_at_the_tick :
    ((heldBy .reset .b 3).elapse 26999).holds.get 3 = { holder := some .b, ms := 1000 } ∧
      ((heldBy .reset .b 3).elapse 27000).holds.get 3 = { holder := some .b, ms := 999 } := by decide +kernel

/-- A link whose parser is held at a complete frame behind a full reply queue and a full FIFO. -/
def blockedLink : LinkState :=
  { busyLink 0 4 .empty none with
    parser := { phase := .complete [0x30, 1], rescan := [] }, fifo := List.replicate 32 (.byte 0x7E false) }

theorem test_witness_OneCharacterArrives_behind_a_held_frame :
    let held := { blockedLink with fifo := List.replicate 31 (.byte 0x7E false), lastArrival := some 0 }
    let arrived := fun (wait : Nat) (stop : Bool) => (after (.arrival .a wait 9 stop) (withA held)).linkA
    (fifoLevel held.fifo < 32 ∧ held.parser.phase = .complete [0x30, 1] ∧ 4 ≤ held.replies.length) ∧
      (arrived 46875 true).fifo = held.fifo ++ [.byte 9 false] ∧ (arrived 46876 true).fifo = held.fifo ++ [.byte 9 true] ∧
      (arrived 5 false).fifo = held.fifo ++ [.cut] ∧ (arrived 5 false).errors.framing = 1 := by decide +kernel

theorem test_witness_OneCharacterArrives :
    (State.reset.link .a).quiet = true ∧ ((withA blockedLink).link .a).parser.phase = .complete [0x30, 1] ∧
      4 ≤ ((withA blockedLink).link .a).replies.length ∧ fifoLevel ((withA blockedLink).link .a).fifo = 32 := by
  decide +kernel

/-- A link in the midst of a frame, its last character just come. -/
def inFrame (phase : Phase) : LinkState :=
  { idleLink with parser := { phase := phase, rescan := [] }, lastArrival := some 0 }

theorem test_witness_OneCharacterArrives_in_a_frame :
    let x (phase : Phase) := (withA (inFrame phase)).link .a
    ((x .length).parser.rescan = [] ∧ (x .length).fifo = [] ∧ (x .length).parser.phase = .length) ∧
      (x (.body 3 [0x30] 51)).parser.phase = .body 3 [0x30] 51 ∧
      (x (.check 2 [0x30, 5] 0x37)).parser.phase = .check 2 [0x30, 5] 0x37 ∧ (0x37 : Byte) + 0xC9 = 0 ∧
      (0x37 : Byte) + 1 ≠ 0 ∧ (x .length).replies.length < 4 ∧
      ((withA { inFrame .length with replies := List.replicate 4 [0x85, 0] }).link .a).replies.length = 4 ∧
      (x .length).lastArrival = some 0 ∧ 0 + gapLimit (x .length).rate < State.reset.clock + 46876 ∧
      ¬ 0 + gapLimit (x .length).rate < State.reset.clock + 46875 ∧ (x .length).parser.phase.inFrame = true ∧
      0x7E ∉ (BitVec.ofNat 8 2 :: ([0x30, 5] ++ [1]) : List Byte) ∧
      (BitVec.ofNat 8 2 :: ([0x30, 0x7E] ++ [1]) : List Byte) = [2, 0x30] ++ 0x7E :: [1] := by
  decide +kernel

theorem test_bad_check_is_counted_and_rescanned :
    let t := after (.arrival .a 0 1 true) (withA (inFrame (.check 2 [0x30, 0x7E] 0xB0)))
    t.linkA.errors.badCheck = 1 ∧ t.linkA.errors.length = 1 ∧ t.linkA.parser.phase = .hunt := by decide +kernel

theorem idle_lawful : (State.reset.link .a).Lawful :=
  ⟨by decide, by decide, by decide, by decide, by decide, rfl⟩

theorem test_witness_EnvelopeBytesAreTheRequest_unknown :
    isRequestCode 0x0F = false ∧
      exec (.unknownKind .a 0x0F 1 []) State.reset = .next (State.reset.complete .a 0x0F 1 []) := ⟨by decide, rfl⟩

theorem test_witness_EnvelopeBytesAreTheRequest :
    (State.reset.link .a).Lawful ∧ (State.reset.link .a).quiet = true ∧ (List.replicate 126 (0 : Byte)).length ≤ 126 ∧
      exec (requestCommand (.edit .setZone) .a 1 (List.replicate 126 0)) State.reset =
        .next (State.reset.complete .a 0x1A 1 (List.replicate 126 0)) :=
  ⟨idle_lawful, by decide +kernel, by simp, rfl⟩

theorem test_witness_ParserComesToRest :
    exec (.arrival .a 0 0x7E true) State.reset = .next ((State.reset.elapse 0).arrive .a 0x7E true) ∧
      ((withA blockedLink).link .a).replies ≠ [] := ⟨rfl, by decide +kernel⟩

theorem test_witness_InterByteTimeoutAbandonsTheFrame :
    let s := after (.arrival .a 10 0x7E true) State.reset
    (s.link .a).parser.phase.inFrame = true ∧ (s.link .a).parser.rescan = [] ∧ (s.link .a).fifo = [] ∧
      (s.link .a).lastArrival = some 10 := by decide +kernel

/-- A break 25 ms after the falling edge: of a line at zero from power-on, of a zero whose character has come, and again after the line has returned to one. -/
theorem test_break_is_measured_and_comes_again :
    let first := after (.lineBreak .a) State.reset
    let framed := after (.arrival .a 9226 0 false) State.reset
    let held := after (.lineBreak .a) framed
    let again := after (.lineBreak .a) first
    (first.clock = 675000 ∧ first.linkA.errors.breaks = 1 ∧ first.linkA.errors.framing = 1) ∧
      (held.clock = 682000 ∧ held.linkA.errors.breaks = 1 ∧ held.linkA.errors.framing = 1) ∧
      again.clock = 1350000 ∧ again.linkA.errors.breaks = 2 ∧ again.linkA.errors.framing = 2 := by decide +kernel

/-- The zero of a character with a zero stop bit begins with its start bit where no data bit is one, and else at the end of its last one bit: half a bit time before the middle of the stop bit behind 0xFF, 8.5 behind 0x01 (R158). -/
theorem test_zero_begins_behind_the_last_one :
    let framed := fun b : Byte => after (.arrival .a 10000 b false) State.reset
    let broken := after (.lineBreak .a) (framed 0xFF)
    [(0x00 : Byte), 0x01, 0x7F, 0x80, 0xFF].map zeroHalfBits = [19, 15, 3, 1, 1] ∧
      ((framed 0xFF).link .a).zero = .framed (10000 - 117) ∧ ((framed 0x01).link .a).zero = .framed (10000 - 1757) ∧
      zeroPeriods .baud460800 0xFF = 29 ∧
      broken.clock = 10000 - 117 + 675000 ∧ broken.linkA.errors.breaks = 1 ∧ broken.linkA.errors.framing = 1 := by
  decide +kernel

theorem test_witness_BreakResetsTheLink :
    let framed := after (.arrival .a 9226 0 false) State.reset
    ((framed.link .a).zero = .framed 7000 ∧ framed.clock ≤ 7000 + 675000) ∧
      ((withA { idleLink with zero := .framed 7000 }).elapse 682001).clock = 682001 ∧ 7000 + 675000 < 682001 ∧
      (State.reset.link .a).zero = .none ∧ (State.reset.link .a).quiet = true ∧
      ((after (.lineBreak .a) State.reset).link .a).zero = .broken :=
  by decide +kernel

/-- Two ACKs of 6 characters each, one behind the other, end at the first whole period after 14,062.5 and at 28,125: no time is lost between them (R156). -/
theorem test_frames_follow_at_once :
    let s := withA ((idleLink.enterReply [0x80, 1, 0x18]).enterReply [0x80, 2, 0x18])
    let t := after (.transmissionEnd .a) s
    (t.clock = 14063 ∧ t.linkA.replies = [[0x80, 2, 0x18]]) ∧
      (after (.transmissionEnd .a) t).clock = 28125 ∧ (after (.transmissionEnd .a) t).linkA.replies = [] := by
  decide +kernel

/-- A character that begins at the very moment of a link reset goes out whole, and one under way ends (log 19). -/
theorem test_link_reset_ends_the_character :
    (idleLink.enterReply [0x85, 1]).charLeft = 37500 ∧ { idleLink with txLeft := 37501 }.charLeft = 1 ∧
      idleLink.charLeft = 0 := by decide +kernel

/-- A link with a RESULT waiting behind a full reply queue. -/
def answeredLink : LinkState := busyLink 0 4 (.answered [0x82, 1, 0x24]) none

theorem test_witness_TransmissionEndSendsTheNextFrame :
    let held := withA { blockedLink with fifo := [] }
    let free := withA (busyLink 0 1 .empty none)
    let answered := withA answeredLink
    ((held.link .a).replies = [0x85, 0] :: List.replicate 3 [0x85, 0] ∧ (held.link .a).fifo = [] ∧
        (held.link .a).parser.rescan = [] ∧ (held.link .a).parser.phase = .complete [0x30, 1] ∧
        (held.link .a).query = .empty) ∧
      ((free.link .a).replies = [[0x85, 0]] ∧ (free.link .a).parser.phase = .hunt ∧ (free.link .a).query = .empty) ∧
      (answered.link .a).query = .answered [0x82, 1, 0x24] ∧ (answered.link .a).parser.phase = .hunt ∧
      (withA { answeredLink with parser := blockedLink.parser }).linkA.parser.phase = .complete [0x30, 1] := by
  decide +kernel

theorem test_witness_FrameStartAsksForASlot :
    let present := front0 { presentFront with frame := none }
    (State.reset.fronts.get 0).loop = none ∧ (State.reset.fronts.get 0).frame = none ∧
      (State.reset.fronts.get 0).monitor ≠ .present ∧ ((front0 presentFront).fronts.get 0).frame ≠ none ∧
      (present.fronts.get 0).monitor = .present ∧ (present.fronts.get 0).frame = none ∧
      (present.rings.get 0).slots.lowest (fun x => x.state == .free) = some 0 ∧
      ∀ n, (({ present with rings := present.rings.set 0 { slots := Table.fill 4 { Slot.free with state := .ready }, newest := some 0 } }.rings.get
        0).slots.get n).state ≠ .free := by decide +kernel

theorem test_witness_ActiveLineIsJudgedAndWritten :
    (State.reset.fronts.get 0).loop = none ∧ (State.reset.fronts.get 0).frame = none ∧
      ((front0 presentFront).fronts.get 0).frame = some goodFrame ∧ goodFrame.slot = some 1 ∧
      ((front0 { presentFront with frame := some { goodFrame with slot := none }, counterKind := .lineErrors }).fronts.get
        0).counterKind = .lineErrors := by decide +kernel

/-- I12 looped to screen 2, before, within and after the lines of a frame. -/
def looped (lines : Nat) : State :=
  { State.reset with
    fronts := State.reset.fronts.set 11
      { FrontEnd.powerOn with loop := some 1, frame := some { goodFrame with lines := lines, slot := none } } }

theorem test_witness_LoopedInputReceivesItsScreen :
    ((looped 1079).fronts.get 11).loop = some 1 ∧
      ((looped 1079).fronts.get 11).frame = some { goodFrame with lines := 1079, slot := none } ∧
      ((looped 1080).fronts.get 11).frame = some { goodFrame with lines := 1080, slot := none } ∧
      ((loopedAsleep (.unpin 0)).fronts.get 11).loop = some 3 ∧ ((loopedAsleep (.unpin 0)).fronts.get 11).frame = none ∧
      ((looped 0).fronts.get 0).loop ≠ some 1 := by
  decide +kernel

/-- Frame starts, lines and ends of a looped input in PRESENT (R92): what the statements over every loop selection say is met by it. -/
theorem test_witness_frames_of_a_looped_input :
    let s := fun f : FrontEnd => { State.reset with fronts := State.reset.fronts.set 11 { f with loop := some 1 } }
    let ended := fun x : FrameInProgress => (s { presentFront with frame := some x }).frameEnd 11 none
    (((s { presentFront with frame := none }).frameStart 11).fronts.get 11).captureCount = 1 ∧
      (((s { presentFront with frame := none }).frameStart 11).rings.get 11).slots.get 0 =
        { Slot.free with state := .filling, seq := 1 } ∧
      ((((s { presentFront with checker := .hunt }).activeLine 11 [.black]).fronts.get 11).frame.map (·.lineError)) =
        some true ∧
      ((ended goodFrame).rings.get 11).newest = some 1 ∧ ((ended { goodFrame with lines := 359 }).rings.get 11).newest = none ∧
      ((ended { goodFrame with firstWidth := some 720 }).fronts.get 11).monitor = .acquiring ∧
      after (.frameEnd 11 none) (s presentFront) = s presentFront := by decide +kernel

/-- A boundary ends the looped frame and begins the next in one event (log 16). -/
theorem test_boundary_ends_and_begins_looped_frames :
    let t := after (.boundary 1) (looped 1080)
    (t.fronts.get 11).monitor = .acquiring ∧ (t.fronts.get 11).candidate = some { width := 640, height := 1080, period := 450000 } ∧
      ((t.fronts.get 11).frame.map fun x => x.lines) = some 0 := by decide +kernel

theorem test_witness_CheckerFindsAndLosesSync :
    (State.reset.fronts.get 0).checker = .off ∧
      ((front0 { FrontEnd.powerOn with checker := .hunt, runCount := 7 }).fronts.get 0).runCount = 7 ∧
      ((front0 { FrontEnd.powerOn with checker := .hunt, runCount := 6 }).fronts.get 0).checker = .hunt ∧
      ((front0 { FrontEnd.powerOn with checker := .sync, blockErrors := 6 }).fronts.get 0).checker = .sync ∧
      [Colour.black][0]? = some .black ∧ ((front0 presentFront).fronts.get 0).loop = none ∧
      ((front0 presentFront).fronts.get 0).frame = some goodFrame := by
  decide +kernel

/-- The checker leaves SYNC at the seventh error of a block, and begins a block anew after the 64th line (R95). -/
theorem test_checker_counts_a_block :
    let s := front0 { FrontEnd.powerOn with checker := .sync, blockErrors := 5, blockPos := 62 }
    let f := (s.checkLine 0 false).fronts.get 0
    let g := ((s.checkLine 0 false).checkLine 0 true).fronts.get 0
    (f.blockErrors = 6 ∧ f.blockPos = 63) ∧ (g.blockErrors = 0 ∧ g.blockPos = 0) ∧
      (((s.checkLine 0 false).checkLine 0 false).fronts.get 0).checker = .hunt := by decide +kernel

theorem test_witness_InvalidFrameIsAbandoned :
    let s := front0 { presentFront with frame := some { goodFrame with lines := 359 }, counterKind := .invalidFrames }
    (s.fronts.get 0).loop = none ∧ (s.fronts.get 0).frame = some { goodFrame with lines := 359 } ∧
      { goodFrame with lines := 359 }.validFormat = none := by decide +kernel

theorem test_witness_MatchingFrameIsPublished :
    let s := front0 presentFront
    (s.fronts.get 0).loop = none ∧ (s.fronts.get 0).frame = some goodFrame ∧ goodFrame.validFormat = some goodFormat ∧
      (s.fronts.get 0).monitor = .present ∧ (s.fronts.get 0).latched = some goodFormat ∧
      goodFormat.matched goodFormat = true ∧ goodFrame.startedPresent = true ∧ goodFrame.slot = some 1 ∧
      (s.rings.get 0).newest ≠ some 1 := by decide +kernel

/-- A frame that was dropped still gives its audio. -/
theorem test_dropped_frame_gives_its_audio :
    let s := front0 { presentFront with frame := some { goodFrame with slot := none }, missCount := 5 }
    let t := after (.frameEnd 0 (some [⟨5, 7⟩])) s
    (t.fronts.get 0).fifo = [⟨5, 7⟩] ∧ (t.fronts.get 0).missCount = 0 ∧ (t.rings.get 0).newest = none := by decide +kernel

/-- INPUT_STATE of a gain of signal is latched on the link whose edge mode is ANY, and on that alone. -/
theorem test_edge_modes_of_input_state :
    let f := { FrontEnd.powerOn with frame := some { goodFrame with slot := none } }
    let x := { idleLink with events := { EventState.powerOn with inputMode := .lossOnly } }
    let t := after (.frameEnd 0 none) { front0 f with linkB := x }
    t.linkA.events.sets.get 0 = 1#16 ∧ t.linkB.events.sets.get 0 = 0#16 := by decide +kernel

theorem test_witness_MonitorFollowsValidFrames :
    let s (m : MonitorState) (n : Nat) :=
      front0 { presentFront with monitor := m, candidate := some goodFormat, acqCount := n, criterion := .quick }
    goodFrame.validFormat = some goodFormat ∧ ((s .lost 0).fronts.get 0).monitor = .lost ∧
      ((s .acquiring 2).fronts.get 0).candidate = some goodFormat ∧ 3 ≤ ((s .acquiring 2).fronts.get 0).acqCount + 1 ∧
      ((s .acquiring 1).fronts.get 0).acqCount + 1 < 3 ∧
      { goodFormat with width := 641 }.matched goodFormat = false ∧ goodFormat.matched goodFormat = true ∧
      (s .present 0).fronts.get 0 ≠ .powerOn := by decide +kernel

theorem test_witness_InputTimersExpire :
    let acquiring := front0 (FrontEnd.powerOn.enterAcquiring goodFormat)
    let present (n : Nat) := front0 { presentFront with missCount := n }
    let holding := front0 { FrontEnd.powerOn with slate := .holding, slateTimer := .running 1000, slateMode := .hold }
    ((acquiring.fronts.get 0).monitor = .acquiring ∧ (acquiring.fronts.get 0).acqTimer = some 50) ∧
      (((present 28).fronts.get 0).missLeft = some 562500 ∧ ((present 28).fronts.get 0).latched = some goodFormat ∧
        ((present 28).fronts.get 0).missCount + 1 < 30) ∧ 30 ≤ ((present 29).fronts.get 0).missCount + 1 ∧
      (holding.fronts.get 0).slate = .holding ∧ (holding.fronts.get 0).slateTimer = .running 1000 := by decide +kernel

/-- An acquisition timer of 50 runs out at the 50th millisecond tick, a miss interval at its own reference period. -/
theorem test_input_timers_end_at_their_times :
    let s := { front0 (FrontEnd.powerOn.enterAcquiring goodFormat) with clock := 1000 }
    let p := front0 { presentFront with missCount := 28 }
    (after (.acquisitionTimerExpiry 0) s).clock = 50 * 27000 ∧ (after (.missIntervalExpiry 0) p).clock = 562500 := by
  decide +kernel

/-- At the N-th miss the slot of the frame in progress is freed, a checker in SYNC goes to HUNT, and both events are latched. -/
theorem test_loss_frees_the_slot_and_the_sync :
    let s := front0 { presentFront with missCount := 29, checker := .sync, holdTime := 3, slateMode := .hold }
    let t := after (.missIntervalExpiry 0) { s with rings := s.rings.set 0 ((s.rings.get 0).fill 1 7) }
    let f := t.fronts.get 0
    (f.monitor = .lost ∧ f.checker = .hunt ∧ f.slateTimer = .running 3000 ∧ (f.frame.map fun x => x.slot) = some none) ∧
      ((t.rings.get 0).slots.get 1).state = .free ∧ t.linkB.events.sets.get 0 = 1#16 ∧ t.linkB.events.sets.get 2 = 1#16 := by
  decide +kernel

theorem test_witness_SamplePeriods :
    State.reset.detector.due = false ∧ State.reset.detector.pos < 480 ∧
      ({ State.reset with detector := { Detector.powerOn with pos := 479 } } : State).detector.pos < 480 := by decide

/-- A sample period that comes before a due judgement takes it first (log 10). -/
theorem test_witness_SamplePeriodFeedsTheDetector_due :
    let s := { State.reset with detector := { Detector.powerOn with due := true, peak := 8388608, run := 1 } }
    let d := (after (.samplePeriod (-5)) s).detector
    s.detector.due = true ∧ (d.state = .active ∧ d.peak = 5 ∧ d.pos = 1 ∧ d.due = false) := by decide +kernel

/-- A zone whose announce sample is limited, at the first sample of a block after one that clipped. -/
theorem test_clip_marks_rotate :
    let r := { ZoneRecord.powerOn with mode := .mix, contributions := [{ source := .an, gain := 2048 }] }
    let s := { State.reset with zones := State.reset.zones.set 3 { Zone.powerOn with record := r, curMark := true } }
    let t := after (.samplePeriod 0x7FFFFF) s
    let u := after (.samplePeriod 0x7FFFFF) { s with zones := State.reset.zones.set 3 { Zone.powerOn with record := r } }
    ((t.zones.get 3).prevMark = true ∧ (t.zones.get 3).curMark = true ∧ (t.zones.get 3).clipCount = 1) ∧
      t.linkA.events.latches.get 10 = false ∧ u.linkA.events.latches.get 10 = true := by decide +kernel

theorem test_witness_BlockJudgementByTheTable :
    (after (.samplePeriod 9) { State.reset with detector := { Detector.powerOn with pos := 479 } }).detector.due = true := by
  decide +kernel

/-- Windows 1 and 5 wait; screen 1 is FEATURE and screen 2 AMBIENT. -/
def waiting (feature ambient list : List WallWindow) : State :=
  { State.reset with
    comps := State.reset.comps.set 0
      { Compositor.powerOn with
        live := { ScreenRecord.powerOn with settings := { ScreenRecord.powerOn.settings with cls := .feature } } }
    pool := { Pool.initial with feature := feature, ambient := ambient, waiting := list } }

theorem test_witness_ArbitrationInItsFourCases :
    let of := fun (s : State) (c : ScreenClass) => s.pool.waiting.filter fun v => s.classOf v == c
    (waiting [0] [] [0, 4]).pool.feature = [0] ∧ (waiting [] [4] [0, 4]).pool.ambient = [4] ∧
      of (waiting [] [] [0, 4]) .feature = [0] ∧ of (waiting [] [] [4]) .feature = [] ∧
      of (waiting [] [] [4]) .ambient = [4] ∧ of (waiting [] [] []) .ambient = [] := by decide +kernel

/-- A window of screen 1 in a service state, on a screen of a class, with its scaler. -/
def served (service : Service) (cls : ScreenClass) (scaler : Option ScalerIx) (source : Option InputIx) : State :=
  { State.reset with
    comps := State.reset.comps.set 0
      { Compositor.powerOn with
        live := { ScreenRecord.powerOn with settings := { ScreenRecord.powerOn.settings with cls := cls } }
        plans := Table.fill 4
          { Plan.off with service := service, source := source, wc := 1820, hc := 1080, sh := 3883, sv := 4096, scaler := scaler } } }

theorem test_witness_ArbitrationInItsFourCases_releases :
    (served .waiting .ambient none none).needOf 0 0 = .off ∧ (served .waiting .economy none (some 0)).needOf 0 0 = .scaler ∧
      ((served .scaled .economy (some 19) (some 0)).plan (wallWindow 0 0)).scaler = some 19 ∧
      (served .granted .feature (some 0) none).needOf 0 0 ≠ .scaler ∧
      ((served .granted .economy (some 0) none).comps.get 0).live.settings.cls = .economy ∧
      ((served .exact .ambient none (some 0)).plan (wallWindow 0 0)).service = .exact ∧
      Compositor.powerOn.live.settings.cls ≠ ((served .exact .feature none none).comps.get 0).live.settings.cls ∧
      Compositor.powerOn.live.settings.cls = ((served .exact .ambient none none).comps.get 0).live.settings.cls := by
  decide +kernel

/-- A window in coarse service that is not planned afresh at the entry to STANDBY keeps the P of its scaled placement, not the coarse one (log 13). -/
theorem test_sleeping_window_keeps_its_scaled_picture :
    let r : Rect := ⟨0, 0, 480, 270⟩
    let q := { Plan.off with source := some 0, ws := 1000, hs := 1000, wc := 1000, hc := 1000, service := .economy }
    ((q.place r).p, (q.place r).d) = (⟨115, 10, 250, 250⟩, 4) ∧ ((q.place r).sleep r).p = r ∧
      ((q.place r).sleep r).v = ⟨0, 0, 0, 0⟩ ∧ ((q.place r).sleep r).wc = 1000 := by decide

/-- A waiting window takes the scaler that a sleeping screen's window gives up. -/
theorem test_witness_standby_releases :
    let s := served .scaled .feature (some 7) (some 0)
    (s.plan (wallWindow 0 0)).scaler = some 7 ∧ (s.plan (wallWindow 1 1)).scaler = none ∧
      ((s.standbyRelease 0 0).plan (wallWindow 0 0)).scaler = none := by decide +kernel

theorem test_witness_BoundaryCopiesAndBeginsAFrame_requests :
    ((served .granted .feature (some 7) (some 0)).needOf 0 0 = .scaler ∧
        ((served .granted .feature (some 7) (some 0)).plan (wallWindow 0 0)).scaler = some 7) ∧
      (served .off .ambient none (some 0)).needOf 0 0 = .scaler ∧
      (served .off .ambient none (some 0)).pool.scalers.get 0 = .free ∧
      (∀ n, ({ served .off .ambient none (some 0) with
        pool := { Pool.initial with scalers := Table.fill 20 (.active 9) } } : State).pool.scalers.get n ≠ .free) ∧
      (served .off .ambient none none).needOf 0 0 = .off := by decide +kernel

theorem test_witness_BoundaryCopiesAndBeginsAFrame :
    (asleep.comps.get 3).run = .standby ∧ (asleep.comps.get 4).run = .active ∧ (asleep.holds.get 4).holder = none ∧
      (asleep.staged.get 4).settings.standby = false ∧ (asleep.staged.get 3).settings.standby = true ∧
      ((heldBy .reset .a 4).holds.get 4).holder ≠ none := by decide +kernel

/-- The time before a boundary in a frame, before the first boundary, and in STANDBY. -/
theorem test_time_to_a_boundary :
    (after (.boundary 4) State.reset).toBoundary 4 = 450000 ∧ State.reset.toBoundary 4 = 0 ∧ asleep.toBoundary 3 = 0 := by
  decide +kernel

/-- A screen whose main window shows I1, which is PRESENT with a newest-ready slot. -/
def showing : State :=
  { front0 { presentFront with frame := none } with
    staged := State.reset.staged.set 2 { ScreenRecord.powerOn with main := { source := some 0, crop := .zero } }
    rings := State.reset.rings.set 0
      { slots := Table.fill 4 { Slot.free with state := .ready, width := 1920, height := 1080 }, newest := some 3 } }

theorem test_witness_WindowsReadTheNewestReadySlot :
    (showing.comps.get 2).run = .active ∧
      (((after (.boundary 2) showing).comps.get 2).plans.get 0).slot = some 3 ∧
      ((after (.boundary 2) showing).comps.get 2).run = .active ∧
      (((after (.boundary 2) showing).comps.get 2).plans.get 0).source = some 0 ∧
      (((after (.boundary 2) showing).comps.get 2).live.window 0).source = some 0 ∧
      ((showing.rings.get 0).newest = some 3 ∧ (showing.fronts.get 0).monitor = .present) ∧
      (State.reset.rings.get 0).newest = none := by decide +kernel

/-- A window that reads a slot, one with another screen state than PICTURE, and an input without a newest-ready slot. -/
theorem test_witness_WindowsReadTheNewestReadySlot_takes :
    let s := after (.boundary 2) showing
    let q := (s.comps.get 2).plans.get 0
    (q.source = some 0 ∧ q.service ≠ .off ∧ q.service ≠ .offscreen ∧ (s.comps.get 2).shown.get 0 = .picture ∧
        (s.rings.get 0).newest = some 3) ∧
      ((s.rings.get 0).slots.get 3).readers = 1 ∧ (((s.takeSlot 2 0).rings.get 0).slots.get 3).readers = 2 ∧
      ((s.comps.get 2).plans.get 1).source = none ∧ s.takeSlot 2 1 = s := by decide +kernel

theorem test_witness_StepsAreRoundedAndClamped :
    let raw := fun crop rect : Nat => (crop * 4096 + rect / 2) / rect
    512 ≤ raw 1280 480 ∧ raw 1280 480 ≤ 32768 ∧ raw 160 1920 < 512 ∧ 32768 < raw 1920 200 ∧ 3840 ≤ 3840 ∧ 0 < 480 := by decide

/-- A window whose Live request has just changed, one whose request stands, and one without a source. -/
theorem test_witness_StepsAreRoundedAndClamped_plans :
    let s := after (.boundary 2) showing
    ((s.comps.get 2).live.window 0).source = some 0 ∧ ((s.comps.get 2).live.window 1).source = none ∧
      Compositor.powerOn.live.main ≠ (s.comps.get 2).live.main ∧
      s.planningRaster 0 = (((s.comps.get 2).plans.get 0).ws, ((s.comps.get 2).plans.get 0).hs) ∧
      ((s.comps.get 2).plans.get 0).service = .exact ∧ ((s.comps.get 2).plans.get 1).service = .off := by decide +kernel

theorem test_witness_VisibleInsidePictureInsideRectangle :
    (scaledPlacement 0 1280 0 720 ⟨-400, 0, 480, 270⟩).empty = false ∧
      (scaledPlacement 0 1280 0 720 ⟨-480, 0, 480, 270⟩).empty = true ∧ 0 < 480 ∧ 0 < 270 ∧
      coarseFactor 1280 720 480 270 ≠ 8 ∧ 2 < coarseFactor 1280 720 480 270 ∧
      { Plan.off with service := .economy }.service = .economy := by decide

/-- The components a pixel is formed from lie between two bounds, and one outside them is not read. -/
theorem test_witness_PixelsStayBetweenTheirSources :
    let x := { Slot.free with lines := List.replicate 3 (List.replicate 2 ⟨7, 7, 7⟩ ++ [⟨900, 900, 900⟩]) }
    let q := { Plan.off with wc := 3, hc := 3 }
    (∀ c ∈ [0, 1], ∀ r ∈ [0, 1], 7 ≤ sampleAt x q Colour.r c r ∧ sampleAt x q Colour.r c r ≤ 7) ∧
      interpolate x q Colour.r 2048 2048 = 7 ∧ boxAverage x q Colour.r 0 0 2 2 = 7 ∧ sampleAt x q Colour.r 2 0 = 900 := by
  decide

/-- A screen in a frame with a window of every kind drawn. -/
def drawn (service : Service) (pattern : Pattern) (leadIn : Bool) : State :=
  { showing with
    comps := State.reset.comps.set 0
      { Compositor.powerOn with
        timing := .running 450000 450000 leadIn
        live := { ScreenRecord.powerOn with settings := { ScreenRecord.powerOn.settings with pattern := pattern } }
        plans := Table.fill 4 { Plan.off with service := service, source := some 0, v := ⟨0, 0, 480, 270⟩, d := 1, slot := some 3 } } }

theorem test_witness_PixelsStayBetweenTheirSources_layers :
    let k := (drawn .exact .none false).comps.get 0
    let q := k.plans.get 1
    (k.timing = .running 450000 450000 false ∧ k.live.settings.pattern = .none) ∧
      ((drawn .off .ramp true).comps.get 0).timing = .running 450000 450000 true ∧
      (State.reset.comps.get 0).timing = .starting 450000 ∧ (asleep.comps.get 3).timing = .stopped ∧
      (q.service ≠ .off ∧ q.service ≠ .offscreen) ∧ q.source = some 0 ∧ q.slot = some 3 ∧
      (q.v.x ≤ 479 ∧ (479 : Int) < q.v.x + q.v.w) ∧ ¬ (480 : Int) < q.v.x + q.v.w ∧
      (let req := k.live.insets.get 0; req.x ≤ 0 ∧ (479 : Int) < req.x + req.w ∧ req.border = 0) := by decide +kernel

theorem test_pixel_of_an_id_card :
    (drawn .off .idCard false).pixel 0 1039 400 = some .black ∧
      (drawn .off .idCard false).pixel 0 1040 540 = some ⟨1023, 1023, 1023⟩ ∧
      idCardPixel 1 1040 540 = true ∧ (drawn .off .solid true).pixel 0 0 0 = some .black := by decide +kernel

/-! ## States of the laws -/

theorem test_witness_EveryStepKeepsTheSceneLaw :
    SceneLaw (queued (.pin 0 240)) := by
  refine ⟨?_, ?_, ?_, ?_, ?_⟩
  · unfold ScreenRecord.InRange InsetRequest.InRange Crop.InRange
    decide +kernel
  · unfold ScreenRecord.InRange InsetRequest.InRange Crop.InRange
    decide +kernel
  · unfold ZoneRecord.InRange
    decide +kernel
  · unfold DetectorSettings.InRange
    decide +kernel
  · intro l e h
    cases l
    · obtain rfl : e = .pin 0 240 := by simpa [queued, withA, State.link] using h
      exact Nat.le_refl 240
    · cases h

theorem test_witness_EveryStepKeepsTheLinkLaw : LinkLaw (withA answeredLink) := by
  intro l
  cases l
  · exact ⟨by decide, by decide, by decide, by decide, by decide, rfl, rfl⟩
  · exact ⟨by decide, by decide, by decide, by decide, by decide, rfl⟩

theorem test_witness_EveryStepKeepsTheAudioLaw : AudioLaw (after (.samplePeriod 9) State.reset) := by
  unfold AudioLaw Sample24
  decide +kernel

theorem test_witness_EveryStepKeepsTheFrontLaw : FrontLaw (front0 presentFront) := by
  refine ⟨?_, ?_⟩
  · have h : ∀ i, (front0 presentFront).fronts.get i = if i = 0 then presentFront else .powerOn := by decide +kernel
    intro i
    rw [h i]
    split
    · exact ⟨⟨rfl, by decide, rfl, by decide, rfl⟩, by decide, by decide⟩
    · exact ⟨⟨rfl, rfl, rfl, rfl, rfl⟩, by decide, by decide⟩
  · intro l e h
    cases l <;> cases h

theorem filling_iff (o : Option FrameInProgress) (n : SlotIx) :
    (∃ x, o = some x ∧ x.slot = some n) ↔ (o.bind (·.slot)) = some n := by
  simp [Option.bind_eq_some_iff]

theorem test_witness_EveryStepKeepsTheRingLaw : RingLaw (after (.boundary 2) showing) := by
  unfold RingLaw
  simp only [filling_iff]
  decide +kernel

/-- A screen whose main window needs a scaler at its next boundary. -/
def cropped : State :=
  let record := { ScreenRecord.powerOn with main := { source := some 0, crop := ⟨100, 0, 0, 0⟩ } }
  { State.reset with staged := State.reset.staged.set 0 record }

/-- Every law is a law of a state with a next state. -/
theorem test_witness_the_laws_have_a_next_state :
    step { queued (.pin 0 240) with pending := [.applyPin] } = exec .applyPin (queued (.pin 0 240)) := rfl

theorem test_witness_EveryStepKeepsThePoolLaw : PoolLaw (after (.boundary 0) cropped) := by
  have hf : (after (.boundary 0) cropped).pool.feature = [] := by decide +kernel
  have ha : (after (.boundary 0) cropped).pool.ambient = [] := by decide +kernel
  unfold PoolLaw State.allOfClass
  rw [hf, ha]
  refine ⟨by decide +kernel, by decide +kernel, by decide +kernel, by decide +kernel, by decide +kernel, by decide +kernel,
    by decide +kernel, List.nil_sublist _, by simp, List.nil_sublist _, by simp, by decide +kernel⟩

end Sys2Proof.Tests
end

section
/-! PROOF. One step: what `exec` keeps of a state, a step keeps. -/

namespace Sys2Proof.Machine

/-- Where an outcome is a next state, that state has the property. -/
def Leads (P : State → Prop) (o : Host.Outcome State Fault Refusal) : Prop := ∀ t, o = .next t → P t

theorem Leads.next {P : State → Prop} {t : State} (h : P t) : Leads P (.next t) := by
  rintro _ ⟨⟩
  exact h

theorem Leads.ite {P : State → Prop} {c : Prop} [Decidable c] {o p : Host.Outcome State Fault Refusal} (ho : Leads P o)
    (hp : Leads P p) : Leads P (if c then o else p) := by
  split
  · exact ho
  · exact hp

/-- With a command waiting, the step is that command on the queue's rest. -/
theorem step_of_cons (s : State) {c : Instr} {rest : List Instr} (h : s.pending = c :: rest) :
    step s = exec c { s with pending := rest } := by
  simp [step, h]

/-- What every command keeps, and the passing of time, and what the queue of commands has no part in, every step keeps. -/
theorem step_keeps {P : State → Prop} (hq : ∀ s rest, P s → P { s with pending := rest })
    (he : ∀ c s, P s → Leads P (exec c s)) (ht : ∀ n s, P s → P (s.elapse n)) {s : State} (hs : P s) : Leads P (step s) := by
  unfold step
  split
  · exact he _ _ (hq _ _ hs)
  · unfold State.idle
    split
    · exact he _ _ hs
    · exact .next (ht 1 s hs)

/-- What every step of a walk over a list keeps, the walk keeps. -/
theorem foldl_keeps {α : Type} {P : State → Prop} {f : State → α → State} (h : ∀ s a, P s → P (f s a)) (xs : List α)
    {s : State} (hs : P s) : P (xs.foldl f s) := by
  induction xs generalizing s with
  | nil => exact hs
  | cons a xs ih => exact ih (h s a hs)

/-- Settles O1, by the first equation of `step`. -/
theorem stepRunsTheFrontCommand : Obligations.StepRunsTheFrontCommand := fun _ _ s h => step_of_cons s h

end Sys2Proof.Machine
end

section
/-! PROOF. What the stages of a commit leave alone: all of a compositor but its plans and pictures, and all of the part but pool, rings and events. -/

namespace Sys2Proof.Machine

/-- `t` is `s` but for the pool, the rings, the event states of the links, and plans and pictures of the compositors. -/
structure OnlyPlans (s t : State) : Prop where
  rest : OnlyEvents { s with comps := t.comps, pool := t.pool, rings := t.rings } t
  live : ∀ scr, (t.comps.get scr).live = (s.comps.get scr).live
  run : ∀ scr, (t.comps.get scr).run = (s.comps.get scr).run
  timing : ∀ scr, (t.comps.get scr).timing = (s.comps.get scr).timing

namespace OnlyPlans

theorem refl (s : State) : OnlyPlans s s := ⟨OnlyEvents.refl s, fun _ => rfl, fun _ => rfl, fun _ => rfl⟩

theorem trans {s t u : State} (h : OnlyPlans s t) (k : OnlyPlans t u) : OnlyPlans s u where
  rest := by
    have h1 := h.rest
    have k1 := k.rest
    unfold OnlyEvents at h1 k1 ⊢
    rw [k1, h1]
  live scr := (k.live scr).trans (h.live scr)
  run scr := (k.run scr).trans (h.run scr)
  timing scr := (k.timing scr).trans (h.timing scr)

theorem ofEvents {s t : State} (h : OnlyEvents s t) : OnlyPlans s t where
  rest := by
    unfold OnlyEvents at h ⊢
    rw [h]
  live _ := by rw [h.comps]
  run _ := by rw [h.comps]
  timing _ := by rw [h.comps]

theorem setPool (s : State) (p : Pool) : OnlyPlans s (s.setPool p) := ⟨rfl, fun _ => rfl, fun _ => rfl, fun _ => rfl⟩

theorem modRing (s : State) (i : InputIx) (f : Ring → Ring) : OnlyPlans s (s.modRing i f) :=
  ⟨rfl, fun _ => rfl, fun _ => rfl, fun _ => rfl⟩

/-- A compositor given new plans and pictures. -/
theorem setPlans (s : State) (scr : ScreenIx) (plans : Table Plan 4) (shown : Table Shown 4) :
    OnlyPlans s (s.setComp scr { s.comps.get scr with plans := plans, shown := shown }) := by
  have keep {α : Type} (g : Compositor → α)
      (hg : g { s.comps.get scr with plans := plans, shown := shown } = g (s.comps.get scr)) (k : ScreenIx) :
      g ((s.setComp scr { s.comps.get scr with plans := plans, shown := shown }).comps.get k) = g (s.comps.get k) := by
    rw [State.comps_setComp, Table.get_set]
    split
    · next e => rw [← e, hg]
    · rfl
  exact ⟨rfl, keep (·.live) rfl, keep (·.run) rfl, keep (·.timing) rfl⟩

theorem setPlan (s : State) (w : WallWindow) (q : Plan) : OnlyPlans s (s.setPlan w q) := setPlans s _ _ _

/-- What every step of a walk over a list keeps, the walk keeps. -/
theorem foldl {α : Type} {f : State → α → State} (h : ∀ s a, OnlyPlans s (f s a)) (xs : List α) (s : State) :
    OnlyPlans s (xs.foldl f s) := by
  induction xs generalizing s with
  | nil => exact refl s
  | cons a xs ih => exact (h s a).trans (ih _)

section Fields
variable {s t : State} (h : OnlyPlans s t)
include h

theorem clock : t.clock = s.clock := h.rest.clock
theorem staged : t.staged = s.staged := h.rest.staged
theorem fronts : t.fronts = s.fronts := h.rest.fronts
theorem marker : t.marker = s.marker := h.rest.marker
theorem pins : t.pins = s.pins := h.rest.pins
theorem holds : t.holds = s.holds := h.rest.holds
theorem zones : t.zones = s.zones := h.rest.zones
theorem detector : t.detector = s.detector := h.rest.detector

/-- All of a link but its event state. -/
theorem link (l : Link) : t.link l = { s.link l with events := (t.link l).events } := by
  cases l
  · exact h.rest.link .a
  · exact h.rest.link .b

end Fields

end OnlyPlans

namespace State

variable (scr : ScreenIx) (s : State)

/-! ## The pool -/

theorem grant_onlyPlans (n : ScalerIx) (w : WallWindow) : OnlyPlans s (s.grant n w) :=
  (OnlyPlans.setPool s _).trans (OnlyPlans.setPlan _ _ _)

theorem captureFeature_onlyPlans : OnlyPlans s s.captureFeature := OnlyPlans.setPool s _

theorem captureAmbient_onlyPlans : OnlyPlans s s.captureAmbient := OnlyPlans.setPool s _

theorem offer_onlyPlans (n : ScalerIx) : OnlyPlans s (s.offer n) := by
  have captured : OnlyPlans s s.captureFeature.captureAmbient :=
    (captureFeature_onlyPlans s).trans (captureAmbient_onlyPlans _)
  unfold State.offer
  split
  · exact grant_onlyPlans s n _
  · split
    · exact (grant_onlyPlans s n _).trans (captureFeature_onlyPlans _)
    · simp only
      split
      · exact captured.trans (grant_onlyPlans _ n _)
      · split
        · exact captured.trans (grant_onlyPlans _ n _)
        · exact OnlyPlans.setPool s _

theorem giveScaler_onlyPlans (w : WallWindow) (service : Service) : OnlyPlans s (s.giveScaler w service) := by
  unfold State.giveScaler
  split
  · exact (OnlyPlans.setPlan s _ _).trans (offer_onlyPlans _ _)
  · exact OnlyPlans.setPlan s _ _

/-! ## The stages -/

theorem planWindow_onlyPlans (old : Compositor) (k : WindowIx) : OnlyPlans s (State.planWindow old scr s k) := by
  unfold State.planWindow
  simp only
  split
  · exact OnlyPlans.setPlans s scr _ _
  · exact OnlyPlans.setPlans s scr _ _

theorem planStage_onlyPlans (old : Compositor) : OnlyPlans s (s.planStage old scr) :=
  OnlyPlans.foldl (fun t k => planWindow_onlyPlans scr t old k) _ s

theorem leaveWindow_onlyPlans (k : WindowIx) : OnlyPlans s (s.leaveWindow scr k) := by
  unfold State.leaveWindow
  simp only
  split
  · exact (OnlyPlans.setPool s _).trans (OnlyPlans.setPlan _ _ _)
  · exact OnlyPlans.refl s

theorem releaseWindow_onlyPlans (k : WindowIx) : OnlyPlans s (s.releaseWindow scr k) := by
  unfold State.releaseWindow
  simp only
  split
  · exact giveScaler_onlyPlans s _ _
  · exact OnlyPlans.refl s

theorem releasePasses_onlyPlans : OnlyPlans s (s.releasePasses scr) :=
  (OnlyPlans.foldl (leaveWindow_onlyPlans scr) _ s).trans (OnlyPlans.foldl (releaseWindow_onlyPlans scr) _ _)

theorem leaveAll_onlyPlans : OnlyPlans s (s.leaveAll scr) := OnlyPlans.foldl (fun t _ => OnlyPlans.setPool t _) _ s

theorem releaseStage_onlyPlans (old : Compositor) : OnlyPlans s (s.releaseStage old scr) := by
  unfold State.releaseStage
  simp only
  split
  · exact (OnlyPlans.setPool s _).trans (releasePasses_onlyPlans scr _)
  · exact releasePasses_onlyPlans scr s

/-- A window's request leaves the part as it stands, or changes the pool and the window's own plan; its plan is then not GRANTED (R43, R48). -/
theorem requestWindow_cases (st : State × Bool) (k : WindowIx) :
    ((State.requestWindow scr st k).1 = st.1 ∧ (st.1.plan (wallWindow scr k)).service ≠ .granted) ∨
      ∃ p q, (State.requestWindow scr st k).1 = (st.1.setPool p).setPlan (wallWindow scr k) q ∧ q.service ≠ .granted := by
  unfold State.requestWindow
  simp only
  split
  · split
    · exact .inr ⟨_, _, rfl, nofun⟩
    · next h => exact .inl ⟨rfl, by simp [h]⟩
    · next h => exact .inl ⟨rfl, by simp [h]⟩
    · split
      · exact .inr ⟨st.1.pool, _, rfl, nofun⟩
      · split
        · exact .inr ⟨_, _, rfl, nofun⟩
        · exact .inr ⟨_, _, rfl, nofun⟩
  · refine .inr ⟨st.1.pool, _, rfl, ?_⟩
    cases st.1.needOf scr k <;> nofun

theorem requestWindow_onlyPlans (st : State × Bool) (k : WindowIx) : OnlyPlans st.1 (State.requestWindow scr st k).1 := by
  rcases requestWindow_cases scr st k with ⟨h, -⟩ | ⟨p, q, h, -⟩
  · rw [h]
    exact OnlyPlans.refl _
  · rw [h]
    exact (OnlyPlans.setPool _ _).trans (OnlyPlans.setPlan _ _ _)

theorem requestWindows_onlyPlans (ks : List WindowIx) (st : State × Bool) :
    OnlyPlans st.1 (ks.foldl (State.requestWindow scr) st).1 := by
  induction ks generalizing st with
  | nil => exact OnlyPlans.refl _
  | cons k ks ih => exact (requestWindow_onlyPlans scr st k).trans (ih _)

theorem placeWindow_onlyPlans (k : WindowIx) : OnlyPlans s (s.placeWindow scr k) := OnlyPlans.setPlans s scr _ _

theorem requestStage_onlyPlans : OnlyPlans s (s.requestStage scr) := by
  have placed := (requestWindows_onlyPlans scr windowsInOrder (s, false)).trans
    (OnlyPlans.foldl (placeWindow_onlyPlans scr) windowsInOrder _)
  unfold State.requestStage
  simp only
  split
  · exact placed.trans (OnlyPlans.ofEvents (OnlyEvents.raiseBoth _ _ _))
  · exact placed

theorem giveUpSlot_onlyPlans (old : Compositor) (k : WindowIx) : OnlyPlans s (s.giveUpSlot old k) := by
  unfold State.giveUpSlot
  simp only
  split
  · exact OnlyPlans.modRing s _ _
  · exact OnlyPlans.refl s

theorem takeSlot_onlyPlans (k : WindowIx) : OnlyPlans s (s.takeSlot scr k) := by
  unfold State.takeSlot
  simp only
  split
  · exact (OnlyPlans.setPlans s scr _ _).trans (OnlyPlans.modRing _ _ _)
  · exact OnlyPlans.setPlans s scr _ _

theorem slotStage_onlyPlans (old : Compositor) : OnlyPlans s (s.slotStage old scr) :=
  (OnlyPlans.foldl (fun t k => giveUpSlot_onlyPlans t old k) _ s).trans (OnlyPlans.foldl (takeSlot_onlyPlans scr) _ _)

theorem standbyRelease_onlyPlans (k : WindowIx) : OnlyPlans s (s.standbyRelease scr k) := by
  unfold State.standbyRelease
  simp only
  split
  · exact OnlyPlans.refl s
  · exact giveScaler_onlyPlans s _ _

end State

end Sys2Proof.Machine
end

section
/-! PROOF. The ranges of R116: the clamps of a request bring every accepted edit into them. -/

namespace Sys2Proof.Machine

theorem le_clampNat {lo hi : Nat} (h : lo ≤ hi) (n : Nat) : lo ≤ clampNat lo hi n ∧ clampNat lo hi n ≤ hi := by
  simp only [clampNat]
  omega

theorem le_clampInt {lo hi : Int} (h : lo ≤ hi) (n : Int) : lo ≤ clampInt lo hi n ∧ clampInt lo hi n ≤ hi := by
  simp only [clampInt]
  omega

theorem readCrop_inRange (f : List Byte) (n : Nat) : (readCrop f n).InRange :=
  ⟨(le_clampNat (by decide) _).2, (le_clampNat (by decide) _).2, (le_clampNat (by decide) _).2, (le_clampNat (by decide) _).2⟩

theorem readInsetRequest_inRange (src : Option InputIx) (f : List Byte) : (readInsetRequest src f).InRange := by
  obtain ⟨x0, x1⟩ := le_clampInt (lo := -1919) (hi := 1919) (by decide) (s16 f 12)
  obtain ⟨y0, y1⟩ := le_clampInt (lo := -1079) (hi := 1079) (by decide) (s16 f 14)
  obtain ⟨w0, w1⟩ := le_clampNat (lo := 16) (hi := 3840) (by decide) (u16 f 16)
  obtain ⟨h0, h1⟩ := le_clampNat (lo := 16) (hi := 2160) (by decide) (u16 f 18)
  exact ⟨readCrop_inRange f 4, x0, x1, y0, y1, w0, w1, h0, h1, (le_clampNat (by decide) _).2, (le_clampNat (by decide) _).2⟩

/-- A loop selection of a screen is read for I11 and I12 alone (R93, R115). -/
theorem loopSelection_screen {i : InputIx} {v : Nat} {lp : Option ScreenIx} (h : loopSelection i v = some lp)
    (hlp : lp ≠ none) : 10 ≤ i.val := by
  unfold loopSelection at h
  split at h
  · cases h
    exact absurd rfl hlp
  · split at h
    · assumption
    · cases h

/-- The entries read are as many as the count says, with clamped gains. -/
theorem readContributions_inRange {f : List Byte} {place n : Nat} {cs : List Contribution}
    (h : readContributions f place n = some cs) : cs.length = n ∧ ∀ c ∈ cs, c.gain ≤ 2048 := by
  induction n generalizing place cs with
  | zero =>
    cases h
    exact ⟨rfl, fun _ hc => nomatch hc⟩
  | succ n ih =>
    unfold readContributions at h
    split at h
    · next src rest _ hrest =>
      cases h
      obtain ⟨hlen, hgain⟩ := ih hrest
      refine ⟨by simp [hlen], fun c hc => ?_⟩
      rcases List.mem_cons.mp hc with rfl | hc
      · exact (le_clampNat (by decide) _).2
      · exact hgain c hc
    · cases h

theorem readGroup_inRange {f : List Byte} {e : Edit} (h : readGroup f = .ok e) : e.InRange := by
  unfold readGroup at h
  split at h
  · next base limit _ _ =>
    have ordered {r : Except NakReason Edit} (hr : (if limit < base then .error .badRange else r) = .ok e) :
        base ≤ limit ∧ r = .ok e := by
      split at hr
      · cases hr
      · exact ⟨by omega, hr⟩
    simp only at h
    split at h
    · split at h
      · obtain ⟨hle, he⟩ := ordered h
        cases he
        exact ⟨hle, readCrop_inRange f 5⟩
      · cases h
    · obtain ⟨hle, he⟩ := ordered h
      split at he
      · cases he
        exact ⟨hle, trivial⟩
      · cases he
    · obtain ⟨hle, he⟩ := ordered h
      split at he
      · cases he
        exact ⟨hle, trivial⟩
      · cases he
    · cases (ordered h).2
  · cases h

theorem readSetInput_inRange {f : List Byte} {e : Edit} (h : readSetInput f = .ok e) : e.InRange := by
  unfold readSetInput at h
  split at h
  · cases h
  · split at h
    · cases h
    · next hlp =>
      split at h
      · cases h
        exact ⟨(le_clampNat (by decide) _).2, loopSelection_screen hlp⟩
      · cases h

theorem readSetZone_inRange {f : List Byte} {e : Edit} (hlen : EditKind.setZone.lengthOk f = true)
    (h : readSetZone f = .ok e) : e.InRange := by
  have hcount : u8 f 16 ≤ 4 := by
    simp only [EditKind.lengthOk, Bool.and_eq_true, decide_eq_true_eq] at hlen
    obtain ⟨⟨-, hcount⟩, -⟩ := hlen
    exact hcount
  unfold readSetZone at h
  split at h
  · next hcs =>
    split at h
    · split at h
      · next hnodup =>
        cases h
        obtain ⟨hn, hgain⟩ := readContributions_inRange hcs
        obtain ⟨nd0, nd1⟩ := le_clampNat (lo := 1) (hi := 16) (by decide) (u8 f 14)
        obtain ⟨nc0, nc1⟩ := le_clampNat (lo := 1) (hi := 255) (by decide) (u8 f 15)
        exact ⟨⟨hn ▸ hcount, of_decide_eq_true hnodup, hgain, (le_clampNat (by decide) _).2, (le_clampNat (by decide) _).2,
          (le_clampNat (by decide) _).2, (le_clampNat (by decide) _).2⟩, (le_clampNat (by decide) _).2, nd0, nd1, nc0, nc1⟩
      · cases h
    · cases h
  · cases h

/-- Every edit that passes its checks is in range: its fields are clamped and its indices checked (R115, R116). -/
theorem readEdit_inRange {k : EditKind} {f : List Byte} {e : Edit} (hlen : k.lengthOk f = true) (h : readEdit k f = .ok e) :
    e.InRange := by
  cases k with
  | setMain =>
    simp only [readEdit, readSetMain] at h
    split at h
    · cases h
      exact readCrop_inRange f 3
    · cases h
  | setInset =>
    simp only [readEdit, readSetInset] at h
    split at h
    · cases h
      exact readInsetRequest_inRange _ f
    · cases h
  | clearInset =>
    simp only [readEdit, readClearInset] at h
    split at h
    · cases h
      trivial
    · cases h
  | clearScreen =>
    simp only [readEdit, readClearScreen] at h
    split at h
    · cases h
      trivial
    · cases h
  | swap =>
    simp only [readEdit, readSwap] at h
    split at h
    · cases h
      trivial
    · cases h
  | setScreen =>
    simp only [readEdit, readSetScreen] at h
    split at h
    · cases h
    · split at h
      · cases h
        trivial
      · cases h
  | group => exact readGroup_inRange h
  | pin =>
    simp only [readEdit, readPin] at h
    split at h
    · cases h
      exact (le_clampNat (by decide) _).2
    · cases h
  | unpin =>
    simp only [readEdit, readUnpin] at h
    split at h
    · cases h
      trivial
    · cases h
  | setInput => exact readSetInput_inRange h
  | setZone => exact readSetZone_inRange hlen h
  | snapshotCounters =>
    simp only [readEdit, readSnapshotCounters] at h
    split at h
    · cases h
      trivial
    · cases h

/-! ## Screen records -/

namespace ScreenRecord.InRange

variable {r : ScreenRecord} (h : r.InRange)
include h

theorem setMain {req : MainRequest} (hreq : req.crop.InRange) : (r.setMain req).InRange := ⟨hreq, h.2⟩

theorem setInset (k : InsetIx) {req : InsetRequest} (hreq : req.InRange) : (r.setInset k req).InRange := by
  refine ⟨h.1, fun j => ?_⟩
  simp only [ScreenRecord.setInset, Table.get_set]
  split
  · exact hreq
  · exact h.2 j

theorem clearInset (k : InsetIx) : (r.clearInset k).InRange := by
  refine ⟨h.1, fun j => ?_⟩
  simp only [ScreenRecord.clearInset, Table.get_modify]
  split
  · exact h.2 j
  · exact h.2 j

theorem clearAll : r.clearAll.InRange := by
  refine ⟨h.1, fun j => ?_⟩
  simp only [ScreenRecord.clearAll, Table.get_map]
  exact h.2 j

/-- Only source and crop change places, and both crops are in range. -/
theorem swap (k : InsetIx) : (r.swap k).InRange := by
  refine ⟨(h.2 k).1, fun j => ?_⟩
  simp only [ScreenRecord.swap, Table.get_set]
  split
  · exact ⟨h.1, (h.2 k).2⟩
  · exact h.2 j

theorem setSettings (x : Settings) : (r.setSettings x).InRange := h

theorem groupChange {base limit : ScreenIx} {invert : Bool} {c : GroupChange} (hc : (Edit.group base limit invert c).InRange) :
    (r.groupChange c).InRange := by
  cases c with
  | main req => exact ⟨hc.2, h.2⟩
  | standby on => exact h
  | pattern p => exact h

end ScreenRecord.InRange

theorem powerOn_inset_inRange : InsetRequest.powerOn.InRange := by
  simp [InsetRequest.InRange, Crop.InRange, InsetRequest.powerOn, Crop.zero]

theorem powerOn_record_inRange : ScreenRecord.powerOn.InRange := by
  refine ⟨⟨Nat.zero_le _, Nat.zero_le _, Nat.zero_le _, Nat.zero_le _⟩, fun k => ?_⟩
  simpa [ScreenRecord.powerOn] using powerOn_inset_inRange

theorem powerOn_zone_inRange : ZoneRecord.powerOn.InRange := by
  simp [ZoneRecord.InRange, ZoneRecord.powerOn]

theorem powerOn_detector_inRange : Detector.powerOn.settings.InRange := by
  simp [DetectorSettings.InRange, Detector.powerOn]

end Sys2Proof.Machine
end

section
/-! PROOF. The law of the scene: what it reads of a state, and that every operation keeps it. -/

namespace Sys2Proof.Machine

/-- `t` holds the records of `s` and queues no edit that `s` does not. -/
structure SameScene (s t : State) : Prop where
  staged : t.staged = s.staged
  live : ∀ scr, (t.comps.get scr).live = (s.comps.get scr).live
  zone : ∀ z, (t.zones.get z).record = (s.zones.get z).record
  detector : t.detector.settings = s.detector.settings
  edits : ∀ l, (t.link l).edits ⊆ (s.link l).edits

namespace SameScene

theorem refl (s : State) : SameScene s s := ⟨rfl, fun _ => rfl, fun _ => rfl, rfl, fun _ => List.Subset.refl _⟩

theorem trans {s t u : State} (h : SameScene s t) (k : SameScene t u) : SameScene s u where
  staged := k.staged.trans h.staged
  live scr := (k.live scr).trans (h.live scr)
  zone z := (k.zone z).trans (h.zone z)
  detector := k.detector.trans h.detector
  edits l _ he := h.edits l (k.edits l he)

/-- Nothing that the law reads has changed. -/
theorem ofParts {s t : State} (hst : t.staged = s.staged) (hc : t.comps = s.comps) (hz : t.zones = s.zones)
    (hd : t.detector = s.detector) (ha : t.linkA.edits = s.linkA.edits) (hb : t.linkB.edits = s.linkB.edits) :
    SameScene s t where
  staged := hst
  live _ := by rw [hc]
  zone _ := by rw [hz]
  detector := by rw [hd]
  edits l := by
    cases l
    · exact ha ▸ List.Subset.refl _
    · exact hb ▸ List.Subset.refl _

theorem ofEvents {s t : State} (h : OnlyEvents s t) : SameScene s t :=
  .ofParts h.staged h.comps h.zones h.detector (by rw [h]) (by rw [h])

theorem ofInputs {P : InputIx → Prop} {s t : State} (h : OnlyInputs P s t) : SameScene s t :=
  .ofParts h.staged h.comps h.zones h.detector (by rw [h.1]) (by rw [h.1])

theorem ofPlans {s t : State} (h : OnlyPlans s t) : SameScene s t where
  staged := h.staged
  live := h.live
  zone _ := by rw [h.zones]
  detector := by rw [h.detector]
  edits l := by
    rw [h.link l]
    exact List.Subset.refl _

/-- A link that queues no new edit. -/
theorem setLink (s : State) (l : Link) {x : LinkState} (hx : x.edits ⊆ (s.link l).edits) : SameScene s (s.setLink l x) where
  staged := by simp
  live _ := by simp
  zone _ := by simp
  detector := by simp
  edits k := by
    rw [State.link_setLink]
    split
    · next e => exact e ▸ hx
    · exact List.Subset.refl _

theorem modLink (s : State) (l : Link) {g : LinkState → LinkState} (hg : (g (s.link l)).edits ⊆ (s.link l).edits) :
    SameScene s (s.modLink l g) := setLink s l hg

theorem elapse (n : Nat) (s : State) : SameScene s (s.elapse n) where
  staged := by simp
  live _ := by rw [State.comp_elapse]
  zone _ := by simp
  detector := by simp
  edits l := by
    rw [State.link_elapse]
    exact List.Subset.refl _

theorem setPin (s : State) (scr : ScreenIx) (x : Pin) : SameScene s (s.setPin scr x) :=
  .ofParts rfl rfl rfl rfl rfl rfl

theorem setHold (s : State) (scr : ScreenIx) (x : Hold) : SameScene s (s.setHold scr x) :=
  .ofParts rfl rfl rfl rfl rfl rfl

theorem raise (s : State) (l : Link) (k : EventKind) (index : Option Nat) : SameScene s (s.raise l k index) :=
  ofEvents (OnlyEvents.raise s l k index)

theorem reply (s : State) (l : Link) (body : List Byte) : SameScene s (s.reply l body) :=
  modLink s l (List.Subset.refl _)

theorem takeEdit (s : State) (l : Link) : SameScene s (s.takeEdit l) :=
  (modLink s l (g := fun x => { x with edits := x.edits.tail, barrier := x.barrier.map (· - 1) })
    (List.tail_subset _)).trans (.ofParts rfl rfl rfl rfl rfl rfl)

theorem refuse (s : State) (l : Link) (kind : EditKind) (screens : List ScreenIx) (reason : RefusalReason) :
    SameScene s (s.refuse l kind screens reason) := by
  cases screens with
  | nil => exact refl s
  | cons scr rest => exact (modLink s l (List.Subset.refl _)).trans (raise _ l _ _)

theorem linkReset (s : State) (l : Link) : SameScene s (s.linkReset l) :=
  (modLink s l (g := LinkState.reset) (List.nil_subset _)).trans
    (.ofParts rfl rfl rfl rfl rfl rfl)

end SameScene

/-! ## The law under changes of the records -/

namespace SceneLaw

variable {s : State}

theorem congr {t : State} (hs : SceneLaw s) (h : SameScene s t) : SceneLaw t := by
  obtain ⟨staged, live, zones, detector, edits⟩ := hs
  refine ⟨fun scr => ?_, fun scr => ?_, fun z => ?_, ?_, fun l e he => edits l e (h.edits l he)⟩
  · rw [h.staged]
    exact staged scr
  · rw [h.live]
    exact live scr
  · rw [h.zone]
    exact zones z
  · rw [h.detector]
    exact detector

variable (hs : SceneLaw s)
include hs

theorem setStaged (scr : ScreenIx) {r : ScreenRecord} (hr : r.InRange) : SceneLaw (s.setStaged scr r) := by
  obtain ⟨staged, live, zones, detector, edits⟩ := hs
  refine ⟨fun k => ?_, live, zones, detector, by simpa using edits⟩
  rw [State.staged_setStaged, Table.get_set]
  split
  · exact hr
  · exact staged k

theorem setComp (scr : ScreenIx) {c : Compositor} (hc : c.live.InRange) : SceneLaw (s.setComp scr c) := by
  obtain ⟨staged, live, zones, detector, edits⟩ := hs
  refine ⟨staged, fun k => ?_, zones, detector, by simpa using edits⟩
  rw [State.comps_setComp, Table.get_set]
  split
  · exact hc
  · exact live k

theorem modComp (scr : ScreenIx) {g : Compositor → Compositor} (hg : (g (s.comps.get scr)).live.InRange) :
    SceneLaw (s.modComp scr g) :=
  hs.setComp scr hg

theorem setZone (k : ZoneIx) {z : Zone} (hz : z.record.InRange) : SceneLaw (s.setZone k z) := by
  obtain ⟨staged, live, zones, detector, edits⟩ := hs
  refine ⟨staged, live, fun j => ?_, detector, by simpa using edits⟩
  rw [State.zones_setZone, Table.get_set]
  split
  · exact hz
  · exact zones j

theorem setDetector {d : Detector} (hd : d.settings.InRange) : SceneLaw (s.setDetector d) := by
  obtain ⟨staged, live, zones, -, edits⟩ := hs
  exact ⟨staged, live, zones, hd, by simpa using edits⟩

theorem setLink (l : Link) {x : LinkState} (hx : ∀ e ∈ x.edits, e.InRange) : SceneLaw (s.setLink l x) := by
  obtain ⟨staged, live, zones, detector, edits⟩ := hs
  refine ⟨by simpa using staged, by simpa using live, by simpa using zones, by simpa using detector, fun k => ?_⟩
  rw [State.link_setLink]
  split
  · exact hx
  · exact edits k

theorem record (scr : ScreenIx) : (s.staged.get scr).InRange := by
  obtain ⟨staged, -⟩ := hs
  exact staged scr

theorem liveRecord (scr : ScreenIx) : (s.comps.get scr).live.InRange := by
  obtain ⟨-, live, -⟩ := hs
  exact live scr

theorem zoneRecord (z : ZoneIx) : (s.zones.get z).record.InRange := by
  obtain ⟨-, -, zones, -⟩ := hs
  exact zones z

theorem detectorSettings : s.detector.settings.InRange := by
  obtain ⟨-, -, -, detector, -⟩ := hs
  exact detector

theorem queued (l : Link) {e : Edit} (he : e ∈ (s.link l).edits) : e.InRange := by
  obtain ⟨-, -, -, -, edits⟩ := hs
  exact edits l e he

end SceneLaw

/-! ## Power-on and wall reset -/

/-- The law holds at the end of power-on, whatever the straps (R2 to R4, R138). -/
theorem sceneLaw_afterPowerOn (rank : Rank) (rateA rateB : LineRate) (pending : List Instr) :
    SceneLaw (.afterPowerOn rank rateA rateB pending) := by
  refine ⟨fun scr => ?_, fun scr => ?_, fun z => ?_, powerOn_detector_inRange, fun l e he => ?_⟩
  · simpa [State.afterPowerOn] using powerOn_record_inRange
  · simpa [State.afterPowerOn, Compositor.powerOn] using powerOn_record_inRange
  · simpa [State.afterPowerOn, Zone.powerOn] using powerOn_zone_inRange
  · cases l <;> cases he

namespace SceneLaw

variable {s : State} (hs : SceneLaw s)
include hs

theorem startLoopedFrames (scr : ScreenIx) : SceneLaw (s.startLoopedFrames scr) :=
  hs.congr (.ofInputs (State.startLoopedFrames_frame s scr))

theorem wallReset : SceneLaw s.wallReset := by
  have cleared : SceneLaw s.wallClear := by
    refine ⟨fun scr => ?_, fun scr => ?_, fun z => ?_, hs.detectorSettings, fun l e he => ?_⟩
    · simpa [State.wallClear] using powerOn_record_inRange
    · simpa [State.wallClear, Compositor.wallReset, Compositor.powerOn] using powerOn_record_inRange
    · simpa [State.wallClear, Zone.wallReset, Zone.powerOn] using powerOn_zone_inRange
    · cases l <;> cases he
  exact foldl_keeps (fun _ scr h => h.startLoopedFrames scr) _ cleared

/-! ## Requests (R162 to R164) -/

theorem takeEditRequest (l : Link) (tag : Byte) {k : EditKind} {f : List Byte} (hlen : k.lengthOk f = true) :
    SceneLaw (s.takeEditRequest l tag k f) := by
  unfold State.takeEditRequest
  split
  · exact hs.congr (.reply s l _)
  · next e he =>
    split
    · refine SceneLaw.congr (hs.setLink l fun x hx => ?_) (.reply _ l _)
      rcases List.mem_append.mp hx with hx | hx
      · exact hs.queued l hx
      · exact List.mem_singleton.mp hx ▸ readEdit_inRange hlen he
    · exact hs.congr (.reply s l _)

theorem takeQueryRequest (l : Link) (tag : Byte) (k : QueryKind) (f : List Byte) :
    SceneLaw (s.takeQueryRequest l tag k f) := by
  unfold State.takeQueryRequest
  split
  · exact hs.congr (.reply s l _)
  · split
    · exact hs.congr ((SameScene.modLink s l (List.Subset.refl _)).trans (.reply _ l _))
    · exact hs.congr (.reply s l _)

theorem takeSetEvents (l : Link) (tag : Byte) (f : List Byte) : SceneLaw (s.takeSetEvents l tag f) := by
  unfold State.takeSetEvents
  split
  · exact hs.congr ((SameScene.modLink s l (List.Subset.refl _)).trans (.reply _ l _))
  · exact hs.congr (.reply s l _)

theorem takeWallReset (l : Link) (tag : Byte) : SceneLaw (s.takeWallReset l tag) := by
  unfold State.takeWallReset
  split
  · exact hs.congr (.reply s l _)
  · exact hs.wallReset.congr (.reply _ l _)

theorem takeFrame (l : Link) (kind tag : Byte) (f : List Byte) : SceneLaw (s.takeFrame l kind tag f) := by
  unfold State.takeFrame
  split
  · next k _ =>
    unfold State.takeNamed
    split
    · next hlen =>
      cases k with
      | edit e => exact hs.takeEditRequest l tag hlen
      | query q => exact hs.takeQueryRequest l tag q f
      | identify => exact hs.congr (.reply s l _)
      | takeEvents => exact hs.congr ((SameScene.modLink s l (List.Subset.refl _)).trans (.reply _ l _))
      | setEvents => exact hs.takeSetEvents l tag f
      | wallReset => exact hs.takeWallReset l tag
      | linkReset => exact hs.congr ((SameScene.linkReset s l).trans (.reply _ l _))
    · exact hs.congr (.reply s l _)
  · exact hs.congr (.reply s l _)

theorem complete (l : Link) (kind tag : Byte) (f : List Byte) : SceneLaw (s.complete l kind tag f) := by
  have arrived : SceneLaw (s.modLink l fun x => x.arrived s.clock) := hs.congr (.modLink s l (List.Subset.refl _))
  unfold State.complete
  split
  · simp only
    split
    · exact arrived.takeFrame l kind tag f
    · exact arrived.congr (.modLink _ l (List.Subset.refl _))
  · exact hs

end SceneLaw

/-! ## The receive lines: no byte but those of a frame's taking reaches the edit queue (R157 to R162) -/

namespace LinkState

variable (x : LinkState) (b : Byte)

theorem edits_huntByte : (x.huntByte b).edits = x.edits := by
  unfold LinkState.huntByte
  split <;> rfl

theorem edits_takeByte (late : Bool) : (x.takeByte b late).edits = x.edits := by
  unfold LinkState.takeByte
  split
  · exact edits_huntByte x.abandonForGap b
  · split
    · exact edits_huntByte x b
    · unfold LinkState.lengthByte
      split <;> rfl
    · unfold LinkState.bodyByte
      split <;> rfl
    · unfold LinkState.checkByte
      split <;> rfl
    · rfl

theorem edits_takeCut : x.takeCut.edits = x.edits := by
  unfold LinkState.takeCut
  split <;> rfl

theorem edits_takeNext {x y : LinkState} (h : x.takeNext = some y) : y.edits = x.edits := by
  unfold LinkState.takeNext at h
  split at h
  · cases h
    exact edits_takeByte _ _ _
  · cases h
    exact edits_takeByte _ _ _
  · cases h
    exact edits_takeCut _
  · cases h

theorem edits_receive (clock : Nat) (stop : Bool) : (x.receive clock b stop).edits = x.edits := by
  unfold LinkState.receive
  split
  · unfold LinkState.receiveByte
    split <;> rfl
  · rfl

theorem edits_endFrame : x.endFrame.edits = x.edits := by
  unfold LinkState.endFrame
  simp only
  split <;> rfl

end LinkState

namespace SceneLaw

variable {s : State} (hs : SceneLaw s)
include hs

theorem takeBody (l : Link) (body : List Byte) : SceneLaw (s.takeBody l body) := by
  unfold State.takeBody
  split
  · exact hs.takeFrame l _ _ _
  · exact hs
  · exact hs

theorem parseOnce (l : Link) {t : State} (h : s.parseOnce l = some t) : SceneLaw t := by
  have next {t : State} (h : (s.link l).takeNext.map (s.setLink l) = some t) : SceneLaw t := by
    obtain ⟨x, hx, rfl⟩ := Option.map_eq_some_iff.mp h
    exact hs.congr (.setLink s l (LinkState.edits_takeNext hx ▸ List.Subset.refl _))
  unfold State.parseOnce at h
  simp only at h
  split at h
  · split at h
    · cases h
      exact SceneLaw.takeBody (hs.congr (.setLink s l (x := (s.link l).setPhase .hunt) (List.Subset.refl _))) l _
    · cases h
  · exact next h
  · exact next h
  · exact next h
  · exact next h

theorem parseFor (l : Link) (n : Nat) : SceneLaw (State.parseFor l n s) := by
  induction n generalizing s with
  | zero => exact hs
  | succ n ih =>
    unfold State.parseFor
    split
    · next h => exact ih (hs.parseOnce l h)
    · exact hs

theorem settleGap (l : Link) : SceneLaw (s.settleGap l) := by
  unfold State.settleGap
  simp only
  split
  · exact hs.congr (.setLink s l (List.Subset.refl _))
  · exact hs

theorem parse (l : Link) : SceneLaw (s.parse l) := SceneLaw.settleGap (hs.parseFor l _) l

theorem elapse (n : Nat) : SceneLaw (s.elapse n) := hs.congr (.elapse n s)

theorem arrive (l : Link) (b : Byte) (stop : Bool) : SceneLaw (s.arrive l b stop) :=
  SceneLaw.parse (hs.congr (.modLink s l (by rw [LinkState.edits_receive]; exact List.Subset.refl _))) l

theorem holdZero (l : Link) : SceneLaw (s.holdZero l) := by
  unfold State.holdZero
  split
  · exact hs
  · exact (hs.elapse _).arrive l 0 false

theorem breakLine (l : Link) : SceneLaw (s.breakLine l) :=
  hs.congr ((SameScene.modLink s l (List.Subset.refl _)).trans (.linkReset _ l))

theorem endTransmission (l : Link) : SceneLaw (s.endTransmission l) :=
  SceneLaw.parse (hs.congr (.modLink s l (by rw [LinkState.edits_endFrame]; exact List.Subset.refl _))) l

/-! ## Screens (R59 to R61, R78) -/

theorem startFrame (scr : ScreenIx) (leadIn : Bool) : SceneLaw (s.startFrame scr leadIn) := by
  unfold State.startFrame
  exact (hs.modComp scr (hs.liveRecord scr)).startLoopedFrames scr

theorem wake (scr : ScreenIx) : SceneLaw (s.wake scr) := by
  unfold State.wake
  exact (hs.modComp scr (hs.liveRecord scr)).startFrame scr true

/-- The commit copies a record in range, and its stages touch none. -/
theorem commit (scr : ScreenIx) : SceneLaw (s.commit scr) := by
  have copied : SceneLaw (s.copyStage scr) := by
    unfold State.copyStage
    split
    · exact hs.setComp scr (hs.record scr)
    · exact hs
  have planned := copied.congr (.ofPlans (State.planStage_onlyPlans scr _ (s.comps.get scr)))
  unfold State.commit
  simp only
  split
  · have released := planned.congr
      (.ofPlans ((State.leaveAll_onlyPlans scr _).trans (State.releasePasses_onlyPlans scr _)))
    have given := released.congr (.ofPlans ((OnlyPlans.foldl (State.standbyRelease_onlyPlans scr) windowsInOrder _).trans
      (OnlyPlans.foldl (fun t k => State.giveUpSlot_onlyPlans t (s.comps.get scr) k) windowsInOrder _)))
    exact given.setComp scr (given.liveRecord scr)
  · have staged := planned.congr (.ofPlans (((State.releaseStage_onlyPlans scr _ (s.comps.get scr)).trans
      (State.requestStage_onlyPlans scr _)).trans (State.slotStage_onlyPlans scr _ (s.comps.get scr))))
    exact staged.startFrame scr false

/-! ## Applications (R117 to R132) -/

theorem writeStaged (scr : ScreenIx) {r : ScreenRecord} (hr : r.InRange) : SceneLaw (s.writeStaged scr r) := by
  unfold State.writeStaged
  simp only
  split
  · exact (hs.setStaged scr hr).wake scr
  · exact hs.setStaged scr hr

theorem screenEdit (l : Link) (kind : EditKind) (hold : Bool) (scr : ScreenIx) {write : ScreenRecord → ScreenRecord}
    (hw : ∀ r : ScreenRecord, r.InRange → (write r).InRange) : SceneLaw (s.screenEdit l kind hold scr write) := by
  unfold State.screenEdit
  split
  · exact hs.congr (.refuse s l kind _ _)
  · exact (hs.writeStaged scr (hw _ (hs.record scr))).congr (.setHold _ _ _)

theorem groupEdit (l : Link) (screens : List ScreenIx) {base limit : ScreenIx} {invert : Bool} {c : GroupChange}
    (hc : (Edit.group base limit invert c).InRange) : SceneLaw (s.groupEdit l screens c) := by
  have written := foldl_keeps (P := SceneLaw) (f := fun t k => t.writeStaged k ((t.staged.get k).groupChange c))
    (fun t k (ht : SceneLaw t) => ht.writeStaged k ((ht.record k).groupChange hc)) (screens.filter fun k => !s.pinStops l k) hs
  exact written.congr (.refuse _ _ _ _ _)

theorem pinEdit (l : Link) (kind : EditKind) (scr : ScreenIx) (pin : Pin) : SceneLaw (s.pinEdit l kind scr pin) := by
  unfold State.pinEdit
  split
  · split
    · exact hs.congr ((SameScene.setPin s scr pin).trans (.raise _ _ _ _))
    · exact hs.congr (.refuse _ _ _ _ _)
  · exact hs.congr (.setPin s scr pin)

theorem unpinScreen (l : Link) (scr : ScreenIx) : SceneLaw (s.unpinScreen l scr) := by
  unfold State.unpinScreen
  split
  · exact hs
  · exact hs.pinEdit _ _ _ _

theorem snapshots (mode : SnapshotMode) (p : InputIx → Bool) : SceneLaw (s.snapshots mode p) :=
  hs.congr (.trans (t := { s with fronts := (s.snapshots mode p).fronts })
    (.ofParts rfl rfl rfl rfl rfl rfl)
    (.ofEvents (State.snapshots_frame s mode p)))

theorem applyZone (k : ZoneIx) {r : ZoneRecord} {d : DetectorSettings} (hr : r.InRange) (hd : d.InRange) :
    SceneLaw (s.applyZone k r d) :=
  SceneLaw.setDetector (hs.setZone k hr) hd

theorem expireHold (scr : ScreenIx) : SceneLaw (s.expireHold scr) := by
  unfold State.expireHold
  split
  · exact hs.congr ((SameScene.setHold s scr _).trans (.raise _ _ _ _))
  · exact hs

theorem answer (l : Link) : SceneLaw (s.answer l) := by
  unfold State.answer
  split
  · refine hs.congr (.modLink s l ?_)
    unfold LinkState.placeResult
    split
    · exact List.Subset.refl _
    · exact List.Subset.refl _
  · exact hs

/-! ## Inputs (R85, R86) -/

theorem acquisitionExpiry (i : InputIx) : SceneLaw (s.acquisitionExpiry i) := by
  unfold State.acquisitionExpiry
  simp only
  split
  · exact hs.congr (.ofInputs (State.loseInput_frame i s))
  · exact hs

theorem missExpiry (i : InputIx) : SceneLaw (s.missExpiry i) := by
  unfold State.missExpiry
  simp only
  split
  · split
    · exact hs.congr (.ofInputs ((State.abandonSlot_frame i s).trans (State.loseInput_frame i _)))
    · exact hs.congr (.ofInputs (State.setFront_frame i s _))
  · exact hs

/-! ## Audio (R145, R148) -/

theorem judgeBlock : SceneLaw s.judgeBlock := by
  have settings : s.detector.judge.settings = s.detector.settings := by
    unfold Detector.judge
    simp only
    split
    · split
      · split <;> rfl
      · rfl
    · split
      · rfl
      · split <;> rfl
  have judged : SceneLaw (s.setDetector s.detector.judge) := hs.setDetector (settings ▸ hs.detectorSettings)
  unfold State.judgeBlock
  split
  · simp only
    split
    · exact judged
    · exact judged.congr (.ofEvents (OnlyEvents.raiseAnnounce _ _))
  · exact hs

/-- A zone's sample leaves its record, whether its clipping marks rotate before or not. -/
theorem sampleZone (an : Sample) (k : ZoneIx) : SceneLaw (s.sampleZone an k) := by
  have sampled (z : Zone) (hz : z.record.InRange) (y : Int × Int) :
      SceneLaw (if z.raises y then (s.setZone k (z.sample y)).raiseBoth .audioClip (some k.val) else s.setZone k (z.sample y)) := by
    split
    · exact (hs.setZone k (z := z.sample y) hz).congr (.ofEvents (OnlyEvents.raiseBoth _ _ _))
    · exact hs.setZone k hz
  refine sampled _ ?_ _
  split
  · exact hs.zoneRecord k
  · exact hs.zoneRecord k

theorem popAudio : SceneLaw s.popAudio :=
  hs.congr (.ofParts rfl rfl rfl rfl rfl rfl)

theorem samplePeriod (an : Sample) : SceneLaw (s.samplePeriod an) := by
  have popped : SceneLaw (zonesInOrder.foldl (State.sampleZone an) s.judgeBlock).popAudio :=
    popAudio (foldl_keeps (fun _ k ht => ht.sampleZone an k) _ hs.judgeBlock)
  unfold State.samplePeriod
  exact popped.setDetector popped.detectorSettings

end SceneLaw

/-! ## Every command -/

/-- The edit that alternation chooses stands in its link's queue (R117). -/
theorem chosen_queued {s : State} {l : Link} {e : Edit} (h : s.chosen = some (l, e)) : e ∈ (s.link l).edits := by
  have head {x : LinkState} (hx : x.eligible = some e) : e ∈ x.edits := by
    unfold LinkState.eligible at hx
    split at hx
    · cases hx
    · exact List.mem_of_mem_head? hx
  unfold State.chosen at h
  split at h <;> cases h
  · exact head (by assumption)
  · exact head (by assumption)
  · exact head (by assumption)
  · exact head (by assumption)

namespace SceneLaw

variable {s : State} (hs : SceneLaw s)
include hs

/-- The application of a queued edit of one kind: the edit is in range, and the state it was taken from keeps the law. -/
theorem applied {l : Link} {e : Edit} (h : s.chosen = some (l, e)) : SceneLaw (s.takeEdit l) ∧ e.InRange :=
  ⟨hs.congr (.takeEdit s l), hs.queued l (chosen_queued h)⟩

theorem execApplySetMain : Leads SceneLaw (execApplySetMain s) := by
  unfold Machine.execApplySetMain
  split
  · next h =>
    obtain ⟨ht, he⟩ := hs.applied h
    exact .next (ht.screenEdit _ _ _ _ fun _ hr => hr.setMain he)
  · exact .next hs

theorem execApplySetInset : Leads SceneLaw (execApplySetInset s) := by
  unfold Machine.execApplySetInset
  split
  · next h =>
    obtain ⟨ht, he⟩ := hs.applied h
    exact .next (ht.screenEdit _ _ _ _ fun _ hr => hr.setInset _ he)
  · exact .next hs

theorem execApplyClearInset : Leads SceneLaw (execApplyClearInset s) := by
  unfold Machine.execApplyClearInset
  split
  · next h => exact .next ((hs.applied h).1.screenEdit _ _ _ _ fun _ hr => hr.clearInset _)
  · exact .next hs

theorem execApplyClearScreen : Leads SceneLaw (execApplyClearScreen s) := by
  unfold Machine.execApplyClearScreen
  split
  · next h => exact .next ((hs.applied h).1.screenEdit _ _ _ _ fun _ hr => hr.clearAll)
  · exact .next hs

theorem execApplySwap : Leads SceneLaw (execApplySwap s) := by
  unfold Machine.execApplySwap
  split
  · next h => exact .next ((hs.applied h).1.screenEdit _ _ _ _ fun _ hr => hr.swap _)
  · exact .next hs

theorem execApplySetScreen : Leads SceneLaw (execApplySetScreen s) := by
  unfold Machine.execApplySetScreen
  split
  · next h => exact .next ((hs.applied h).1.screenEdit _ _ _ _ fun _ hr => hr.setSettings _)
  · exact .next hs

theorem execApplyGroup : Leads SceneLaw (execApplyGroup s) := by
  unfold Machine.execApplyGroup
  split
  · next h =>
    obtain ⟨ht, he⟩ := hs.applied h
    exact .next (ht.groupEdit _ _ he)
  · exact .next hs

theorem execApplyPin : Leads SceneLaw (execApplyPin s) := by
  unfold Machine.execApplyPin
  split
  · next h => exact .next ((hs.applied h).1.pinEdit _ _ _ _)
  · exact .next hs

theorem execApplyUnpin : Leads SceneLaw (execApplyUnpin s) := by
  unfold Machine.execApplyUnpin
  split
  · next h => exact .next ((hs.applied h).1.unpinScreen _ _)
  · exact .next hs

theorem execApplySetInput : Leads SceneLaw (execApplySetInput s) := by
  unfold Machine.execApplySetInput
  split
  · next h => exact .next ((hs.applied h).1.congr (.ofInputs (State.applyInputSettings_frame _ _ _)))
  · exact .next hs

theorem execApplySetZone : Leads SceneLaw (execApplySetZone s) := by
  unfold Machine.execApplySetZone
  split
  · next h =>
    obtain ⟨ht, hr, hd⟩ := hs.applied h
    exact .next (ht.applyZone _ hr hd)
  · exact .next hs

theorem execApplySnapshotCounters : Leads SceneLaw (execApplySnapshotCounters s) := by
  unfold Machine.execApplySnapshotCounters
  split
  · next h => exact .next ((hs.applied h).1.snapshots _ _)
  · exact .next hs

theorem execActiveLine (i : InputIx) (pixels : List Colour) : Leads SceneLaw (execActiveLine i pixels s) := by
  unfold Machine.execActiveLine
  split
  · exact .next (hs.congr (.ofInputs (State.activeLine_frame i s pixels)))
  · exact .ite (.next (hs.congr (.ofInputs (State.activeLine_frame i s _)))) (.next hs)

theorem execFrameEnd (i : InputIx) (audio : Option (List Stereo)) : Leads SceneLaw (execFrameEnd i audio s) := by
  unfold Machine.execFrameEnd
  split
  · exact .next (hs.congr (.ofInputs (State.frameEnd_frame i s audio)))
  · exact .ite (.next hs) (.next (hs.congr (.ofInputs (State.frameEnd_frame i s none))))

theorem execBoundary (scr : ScreenIx) : Leads SceneLaw (execBoundary scr s) :=
  .ite (.next hs) (.next (SceneLaw.commit ((hs.elapse _).congr (.ofInputs (State.endLoopedFrames_frame _ scr))) scr))

/-- Every command keeps the law. -/
theorem exec (c : Instr) : Leads SceneLaw (exec c s) := by
  cases c with
  | powerOn rank rateA rateB => exact .next (sceneLaw_afterPowerOn rank rateA rateB s.pending)
  | setMain l tag f | setInset l tag f | clearInset l tag f | clearScreen l tag f | swap l tag f | setScreen l tag f
  | group l tag f | pin l tag f | unpin l tag f | setInput l tag f | setZone l tag f | snapshotCounters l tag f
  | readScreen l tag f | readWindow l tag f | readInput l tag f | readZone l tag f | readPool l tag f
  | readCounters l tag f | readLink l tag f | identify l tag f | takeEvents l tag f | setEvents l tag f
  | wallReset l tag f | linkReset l tag f => exact .next (hs.complete l _ tag f)
  | unknownKind l kind tag f => exact .next (hs.complete l kind tag f)
  | applySetMain => exact hs.execApplySetMain
  | applySetInset => exact hs.execApplySetInset
  | applyClearInset => exact hs.execApplyClearInset
  | applyClearScreen => exact hs.execApplyClearScreen
  | applySwap => exact hs.execApplySwap
  | applySetScreen => exact hs.execApplySetScreen
  | applyGroup => exact hs.execApplyGroup
  | applyPin => exact hs.execApplyPin
  | applyUnpin => exact hs.execApplyUnpin
  | applySetInput => exact hs.execApplySetInput
  | applySetZone => exact hs.execApplySetZone
  | applySnapshotCounters => exact hs.execApplySnapshotCounters
  | answerEvent l => exact .next (hs.answer l)
  | oneSecondTick => exact .next (hs.elapse _)
  | pinLapsed scr => exact .ite (.next hs) (.next (hs.elapse _))
  | holdExpired scr => exact .ite (.next hs) (.next ((hs.elapse _).expireHold scr))
  | arrival l wait b stop => exact .next ((hs.elapse wait).arrive l b stop)
  | interByteTimeout l => exact .ite (.next ((hs.elapse _).settleGap l)) (.next hs)
  | lineBreak l => exact .next (((hs.holdZero l).elapse _).breakLine l)
  | transmissionEnd l => exact .ite (.next hs) (.next ((hs.elapse _).endTransmission l))
  | frameStart i wait =>
    exact .ite (.next ((hs.elapse wait).congr (.ofInputs (State.frameStart_frame i _)))) (.next (hs.elapse wait))
  | activeLine i pixels => exact hs.execActiveLine i pixels
  | frameEnd i audio => exact hs.execFrameEnd i audio
  | acquisitionTimerExpiry i => exact .ite (.next hs) (.next ((hs.elapse _).acquisitionExpiry i))
  | missIntervalExpiry i => exact .ite (.next hs) (.next ((hs.elapse _).missExpiry i))
  | slateHoldExpiry i =>
    exact .ite (.next ((hs.elapse _).congr (.ofInputs (State.modFront_frame i _ _)))) (.next hs)
  | samplePeriod an => exact .next (hs.samplePeriod an)
  | blockJudgement => exact .next hs.judgeBlock
  | boundary scr => exact hs.execBoundary scr

end SceneLaw

/-- Settles O54: every command keeps the law, the passing of time keeps it, and the queue of commands has no part in it. -/
theorem everyStepKeepsTheSceneLaw : Obligations.EveryStepKeepsTheSceneLaw := fun _ t hs h =>
  step_keeps (P := SceneLaw)
    (fun _ _ hs => hs.congr (.ofParts rfl rfl rfl rfl rfl rfl))
    (fun c _ hs => hs.exec c) (fun n _ hs => hs.elapse n) hs t h

end Sys2Proof.Machine
end

section
/-! PROOF. The part at the end of power-on, item by item, and the six laws there (R2 to R4, R10, R38, R80, R102, R138, R154). -/

namespace Sys2Proof.Machine

@[simp] theorem inset_powerOn (k : InsetIx) : ScreenRecord.powerOn.insets.get k = .powerOn := Table.get_fill _ _

@[simp] theorem plan_powerOn (k : WindowIx) : Compositor.powerOn.plans.get k = .off := Table.get_fill _ _

@[simp] theorem slot_powerOn (n : SlotIx) : Ring.powerOn.slots.get n = .free := Table.get_fill _ _

@[simp] theorem scaler_initial (n : ScalerIx) : Pool.initial.scalers.get n = .free := Table.get_fill _ _

namespace State

section PowerOn
variable (rank : Rank) (rateA rateB : LineRate) (pending : List Instr)

@[simp] theorem staged_afterPowerOn (scr : ScreenIx) :
    (State.afterPowerOn rank rateA rateB pending).staged.get scr = .powerOn := Table.get_fill _ _
@[simp] theorem comp_afterPowerOn (scr : ScreenIx) :
    (State.afterPowerOn rank rateA rateB pending).comps.get scr = .powerOn := Table.get_fill _ _
@[simp] theorem pool_afterPowerOn : (State.afterPowerOn rank rateA rateB pending).pool = .initial := rfl
@[simp] theorem front_afterPowerOn (i : InputIx) :
    (State.afterPowerOn rank rateA rateB pending).fronts.get i = .powerOn := Table.get_fill _ _
@[simp] theorem ring_afterPowerOn (i : InputIx) :
    (State.afterPowerOn rank rateA rateB pending).rings.get i = .powerOn := Table.get_fill _ _
@[simp] theorem pin_afterPowerOn (scr : ScreenIx) :
    (State.afterPowerOn rank rateA rateB pending).pins.get scr = .clear := Table.get_fill _ _
@[simp] theorem hold_afterPowerOn (scr : ScreenIx) :
    (State.afterPowerOn rank rateA rateB pending).holds.get scr = .clear := Table.get_fill _ _
@[simp] theorem zone_afterPowerOn (z : ZoneIx) :
    (State.afterPowerOn rank rateA rateB pending).zones.get z = .powerOn := Table.get_fill _ _
@[simp] theorem detector_afterPowerOn : (State.afterPowerOn rank rateA rateB pending).detector = .powerOn := rfl

@[simp] theorem plan_afterPowerOn (w : WallWindow) : (State.afterPowerOn rank rateA rateB pending).plan w = .off := by
  simp [State.plan]

/-- Both links are at their power-on values, each at the rate of its strap (R154, R155). -/
theorem link_afterPowerOn (l : Link) : ∃ rate, (State.afterPowerOn rank rateA rateB pending).link l = .powerOn rate := by
  cases l
  · exact ⟨rateA, rfl⟩
  · exact ⟨rateB, rfl⟩

end PowerOn

end State

/-- Settles O3, item by item. -/
theorem powerOnSetsEveryItem : Obligations.PowerOnSetsEveryItem := by
  refine ⟨rfl, fun rank rateA rateB s => ⟨State.afterPowerOn rank rateA rateB s.pending, rfl, rfl, rfl, rfl, rfl, rfl, rfl,
    fun scr => ?staged, fun scr => ?comps, fun n => ?scalers, rfl, rfl, rfl, fun i => ?fronts, fun i => ?rings,
    fun scr => ?locks, fun z => ?zones, rfl⟩⟩
  case staged =>
    rw [State.staged_afterPowerOn]
    exact ⟨rfl, rfl, inset_powerOn⟩
  case comps =>
    rw [State.comp_afterPowerOn, State.staged_afterPowerOn]
    exact ⟨rfl, rfl, rfl, plan_powerOn⟩
  case scalers => exact scaler_initial n
  case fronts => exact State.front_afterPowerOn _ _ _ _ i
  case rings =>
    rw [State.ring_afterPowerOn]
    exact ⟨rfl, slot_powerOn⟩
  case locks => exact ⟨State.pin_afterPowerOn _ _ _ _ scr, State.hold_afterPowerOn _ _ _ _ scr⟩
  case zones => exact State.zone_afterPowerOn _ _ _ _ z

/-! ## The laws at reset -/

theorem powerOn_link_lawful (rate : LineRate) : (LinkState.powerOn rate).Lawful := by
  simp [LinkState.Lawful, LinkState.powerOn, ErrorCounts.zero, fifoLevel]

theorem linkLaw_reset : LinkLaw State.reset := fun l => by
  obtain ⟨rate, h⟩ := State.link_afterPowerOn .equal .baud115200 .baud115200 [] l
  exact h ▸ powerOn_link_lawful rate

theorem audioLaw_reset : AudioLaw State.reset := by
  simp [AudioLaw, Sample24, State.reset, Zone.powerOn, Detector.powerOn, FrontEnd.powerOn]

theorem powerOn_front_lawful : FrontEnd.powerOn.Lawful := by
  simp [FrontEnd.Lawful, FrontEnd.powerOn]

theorem frontLaw_reset : FrontLaw State.reset := by
  refine ⟨fun i => ?_, fun l e he => ?_⟩
  · rw [State.reset, State.front_afterPowerOn]
    exact powerOn_front_lawful
  · cases l <;> cases he

/-- Every slot is FREE and unread, no frame is in progress, and no plan names a slot (R102). -/
theorem ringLaw_reset : RingLaw State.reset := by
  refine ⟨fun i n => ?filling, fun i n h => ?newest, fun i n _ => ?unread, fun i n => ?readers, fun w h => ?named⟩
  case filling => simp [State.reset, Slot.free, FrontEnd.powerOn]
  case newest => simp [State.reset, Ring.powerOn] at h
  case unread => simp [State.reset, Slot.free]
  case readers => simp [State.readersOf, Plan.names, Plan.off, State.reset, Slot.free]
  case named =>
    rw [State.reset, State.plan_afterPowerOn] at h
    exact absurd rfl h

/-- Every scaler is FREE, every plan OFF, and the list and the snapshots are empty (R38). -/
theorem poolLaw_reset : PoolLaw State.reset := by
  refine ⟨?_, ?_, ?_, ?_, ?_, ?_, ?_, ?_, ?_, ?_, ?_, fun scr h => ?standby⟩
  case standby =>
    rw [State.reset, State.comp_afterPowerOn] at h
    cases h
  all_goals simp [State.reset, Pool.initial, Plan.off, State.allOfClass]

/-- Settles O60, law by law. -/
theorem theLawsHoldAtReset : Obligations.TheLawsHoldAtReset :=
  ⟨sceneLaw_afterPowerOn _ _ _ _, linkLaw_reset, audioLaw_reset, frontLaw_reset, ringLaw_reset, poolLaw_reset⟩

end Sys2Proof.Machine
end

section
/-! PROOF. Requests on a ready link: what a request command runs, and what a query accepted leaves behind (R133, R162, R163, R165). -/

namespace Sys2Proof.Machine

/-- A request command brings the frame of its kind whole (R162). -/
theorem exec_requestCommand (k : RequestKind) (l : Link) (tag : Byte) (f : List Byte) (s : State) :
    exec (requestCommand k l tag f) s = .next (s.complete l k.code tag f) := by
  cases k with
  | edit e => cases e <;> rfl
  | query q => cases q <;> rfl
  | identify | takeEvents | setEvents | wallReset | linkReset => rfl

/-- A request of a good length on a ready link takes its kind's path, with its check byte just arrived (R163). -/
theorem exec_request_ready (k : RequestKind) {l : Link} (tag : Byte) {f : List Byte} {s : State} (hs : s.ready l)
    (hlen : k.lengthOk f = true) :
    exec (requestCommand k l tag f) s = .next ((s.setLink l ((s.link l).arrived s.clock)).takeKind l tag k f) := by
  obtain ⟨hquiet, hroom⟩ := hs
  rw [exec_requestCommand, complete_ready s l _ tag f hquiet (decide_eq_true hroom), takeFrame_named _ _ _ _ _ hlen]

/-- An index of 1 to `n` names its thing. -/
theorem index_eq_some {n v : Nat} {i : Fin n} : index n v = some i ↔ v = i.val + 1 := by
  unfold index
  split
  · simp only [Option.some.injEq, Fin.ext_iff]
    omega
  · simp only [reduceCtorEq, false_iff]
    omega

theorem index_eq_none {n v : Nat} : index n v = none ↔ v = 0 ∨ n < v := by
  unfold index
  split
  · simp only [reduceCtorEq, false_iff]
    omega
  · simp only [true_iff]
    omega

/-- A query with an index is the query of the thing of that number. -/
theorem map_index_eq_some {n v : Nat} (g : Fin n → Query) (q : Query) :
    (index n v).map g = some q ↔ ∃ i : Fin n, v = i.val + 1 ∧ q = g i := by
  simp only [Option.map_eq_some_iff, index_eq_some, eq_comm (a := q)]

theorem map_index_eq_none {n v : Nat} (g : Fin n → Query) : (index n v).map g = none ↔ v = 0 ∨ n < v := by
  rw [Option.map_eq_none_iff, index_eq_none]

/-- An accepted query sets its slot and its barrier, and is acknowledged (R133, R165). -/
theorem takeQueryRequest_accepted (s : State) (l : Link) (tag : Byte) (k : QueryKind) {f : List Byte} {q : Query}
    (hq : readQuery k f = some q) (hempty : (s.link l).query = .empty) :
    s.takeQueryRequest l tag k f =
      s.setLink l
        ({ s.link l with query := .waiting tag q, barrier := some (s.link l).edits.length }.enterReply (ackBody tag k.code)) := by
  simp [State.takeQueryRequest, hq, hempty, State.ack, reply_eq, State.modLink_eq]

/-- Settles O6: the accepted query on a link whose frame has just arrived, and the ranges of `index`. -/
theorem queryRequestIsAccepted : Obligations.QueryRequestIsAccepted := by
  refine ⟨fun k l tag f s q hs hlen hq hempty => ?_, fun n q => ?_⟩
  · have arrived : ((s.setLink l ((s.link l).arrived s.clock)).link l).query = .empty := by
      rw [State.link_setLink_self]
      exact hempty
    have hrun := exec_request_ready (.query k) tag hs hlen
    rw [State.takeKind, takeQueryRequest_accepted _ l tag k hq arrived, State.link_setLink_self,
      State.setLink_setLink] at hrun
    exact hrun
  · exact ⟨map_index_eq_some .screen q, map_index_eq_some .window q, map_index_eq_some .input q, map_index_eq_some .zone q,
      map_index_eq_none .screen, map_index_eq_none .window, map_index_eq_none .input, map_index_eq_none .zone, rfl, rfl, rfl⟩

end Sys2Proof.Machine
end

section
/-! PROOF. The bodies of the frames the part sends: every field's bytes are those of its layout, part by part (Tables 11-2 to 11-11). -/

namespace Sys2Proof.Machine

/-! ## Fields of one to four bytes -/

@[simp] theorem bigEndian_one (n : Nat) : bigEndian 1 n = [b8 n] := by simp [bigEndian, b8]

@[simp] theorem bigEndian_two (n : Nat) : bigEndian 2 n = be16 n := by simp [bigEndian, be16, b8, List.range_succ]

@[simp] theorem bigEndian_three (n : Nat) : bigEndian 3 n = be24 n := by simp [bigEndian, be24, b8, List.range_succ]

@[simp] theorem bigEndian_four (n : Nat) : bigEndian 4 n = be32 n := by simp [bigEndian, be32, b8, List.range_succ]

@[simp] theorem b8_ofNat (n : Nat) : b8 (no_index (OfNat.ofNat n)) = BitVec.ofNat 8 n := rfl

@[simp] theorem b8_toNat (x : Byte) : b8 x.toNat = x := BitVec.ofNat_toNat 8 x |>.trans (BitVec.setWidth_eq x)

@[simp] theorem b8_number {n : Nat} (x : Option (Fin n)) : b8 (number x) = numberOf x := by cases x <;> rfl

@[simp] theorem numberOf_none {n : Nat} : numberOf (none : Option (Fin n)) = 0 := rfl

@[simp] theorem be16_zero : be16 0 = [0, 0] := rfl

@[simp] theorem mark_false : mark false = 0 := rfl

@[simp] theorem mark_true : mark true = 1 := rfl

@[simp] theorem b8_bit (x : Bool) : b8 (bit x) = mark x := by cases x <;> rfl

@[simp] theorem b8_sourceNumber (x : AudioSource) : b8 (sourceNumber x) = x.code := by cases x <;> rfl

@[simp] theorem bigEndian_signedField (n : Int) : bigEndian (signedField n).1 (signedField n).2 = signed16 n := by
  simp [signedField, signed16, BitVec.toNat_ofInt]

/-! ## Lists of fields -/

@[simp] theorem layout_nil : layout [] = [] := rfl

@[simp] theorem layout_cons (x : Nat × Nat) (xs : List (Nat × Nat)) :
    layout (x :: xs) = bigEndian x.1 x.2 ++ layout xs := rfl

@[simp] theorem layout_append (xs ys : List (Nat × Nat)) : layout (xs ++ ys) = layout xs ++ layout ys :=
  List.flatMap_append

theorem layout_flatMap {α : Type} (g : α → List (Nat × Nat)) (xs : List α) :
    layout (xs.flatMap g) = xs.flatMap fun x => layout (g x) := List.flatMap_assoc

/-- The entries of a table in their order. -/
theorem items_eq_map_get {α : Type} {n : Nat} (t : Table α n) : t.items = (List.finRange n).map t.get := by
  obtain ⟨xs, rfl⟩ := t
  exact (List.map_get_finRange xs).symm

theorem flatMap_items {α β : Type} {n : Nat} (t : Table α n) (g : α → List β) :
    t.items.flatMap g = (List.finRange n).flatMap fun i => g (t.get i) := by
  rw [items_eq_map_get t, List.flatMap_map]

/-! ## The parts of a RESULT -/

@[simp] theorem layout_crop (x : Crop) : layout x.fields = cropBytes x := by
  simp [Crop.fields, cropFields, cropBytes]

@[simp] theorem layout_colour (x : Colour) : layout (colourOf x) = colourBytes x := by
  simp [colourOf, colourFields, colourBytes]

@[simp] theorem layout_inset (r : InsetRequest) : layout r.fields = insetBytes r := by
  simp [InsetRequest.fields, insetBytes]

@[simp] theorem layout_rect (r : Rect) : layout r.fields = rectBytes r := by
  simp [Rect.fields, rectBytes]

@[simp] theorem layout_plan (q : Plan) : layout q.fields = planBytes q := by
  simp [Plan.fields, planBytes]

@[simp] theorem layout_format (x : Option Format) : layout (formatFields x) = formatBytes x := by
  cases x with
  | none => rfl
  | some x => simp [formatFields, formatBytes]

@[simp] theorem layout_slot (x : Slot) : layout x.fields = slotBytes x := by
  by_cases h : x.state = .ready
  · simp [Slot.fields, slotBytes, h]
  · simp [Slot.fields, slotBytes, h, be16, b8]

@[simp] theorem layout_windows (ws : List WallWindow) : layout (windowsFields ws) = windowListBytes ws := by
  have entries : layout (ws.map fun w => (1, w.val + 1)) = ws.map fun w => b8 (w.val + 1) := by
    induction ws with
    | nil => rfl
    | cons w ws ih => simp [ih]
  simp [windowsFields, windowListBytes, entries]

/-- The request of a window as READ_WINDOW gives it, a main window's over the whole canvas (R15). -/
theorem layout_requestEntry (c : Compositor) (k : WindowIx) :
    layout (if h : 1 ≤ k.val then (c.live.insets.get ⟨k.val - 1, by omega⟩).fields
      else
        [(1, number c.live.main.source)] ++ c.live.main.crop.fields ++
          [(2, 0), (2, 0), (2, 1920), (2, 1080), (2, 256), (1, 0)] ++ colourOf c.live.settings.background) =
      insetBytes (c.requestEntry k) := by
  rw [← layout_inset]
  unfold Compositor.requestEntry insetOf
  split
  · rfl
  · rfl

theorem layout_contributions (cs : List Contribution) :
    layout (cs.flatMap fun c => [(1, sourceNumber c.source), (2, c.gain)]) = cs.flatMap contributionBytes := by
  rw [layout_flatMap]
  congr
  funext c
  simp [contributionBytes]

/-! ## Lengths -/

section Lengths

@[simp] theorem length_be16 (n : Nat) : (be16 n).length = 2 := rfl
@[simp] theorem length_be24 (n : Nat) : (be24 n).length = 3 := rfl
@[simp] theorem length_be32 (n : Nat) : (be32 n).length = 4 := rfl
@[simp] theorem length_signed16 (n : Int) : (signed16 n).length = 2 := rfl
@[simp] theorem length_cropBytes (x : Crop) : (cropBytes x).length = 8 := rfl
@[simp] theorem length_colourBytes (x : Colour) : (colourBytes x).length = 6 := rfl
@[simp] theorem length_insetBytes (r : InsetRequest) : (insetBytes r).length = 26 := by simp [insetBytes]
@[simp] theorem length_rectBytes (r : Rect) : (rectBytes r).length = 8 := rfl
@[simp] theorem length_planBytes (q : Plan) : (planBytes q).length = 46 := by simp [planBytes]
@[simp] theorem length_counterBytes (f : FrontEnd) : (counterBytes f).length = 8 := rfl
@[simp] theorem length_countersEntry (f : FrontEnd) : (countersEntry f).length = 8 := rfl
@[simp] theorem length_scalerBytes (x : Scaler) : (scalerBytes x).length = 2 := rfl
@[simp] theorem length_contributionBytes (c : Contribution) : (contributionBytes c).length = 3 := rfl
@[simp] theorem length_formatBytes (x : Option Format) : (formatBytes x).length = 8 := by cases x <;> rfl
@[simp] theorem length_slateTimerBytes (x : HoldTimer) : (slateTimerBytes x).length = 3 := by cases x <;> rfl
@[simp] theorem length_recordBytes (x : Option RefusalRecord) : (recordBytes x).length = 3 := by cases x <;> rfl
@[simp] theorem length_windowListBytes (ws : List WallWindow) : (windowListBytes ws).length = 1 + ws.length := by
  simp [windowListBytes, Nat.add_comm]

@[simp] theorem length_slotBytes (x : Slot) : (slotBytes x).length = 8 := by
  unfold slotBytes
  split <;> rfl

/-- Entries of one width. -/
theorem length_flatMap_of_width {α : Type} {g : α → List Byte} {width : Nat} (h : ∀ x, (g x).length = width) (xs : List α) :
    (xs.flatMap g).length = width * xs.length := by
  induction xs with
  | nil => rfl
  | cons x xs ih => simp [ih, h, Nat.mul_succ, Nat.add_comm]

end Lengths

theorem layout_scalers (t : Table Scaler 20) :
    layout ((List.finRange 20).flatMap fun n => match t.get n with
      | .free => [(1, 0), (1, 0)]
      | .granted w => [(1, 1), (1, w.val + 1)]
      | .active w => [(1, 2), (1, w.val + 1)]) = t.items.flatMap scalerBytes := by
  rw [layout_flatMap, flatMap_items]
  congr
  funext n
  cases t.get n with
  | free => rfl
  | granted w => simp [scalerBytes, Scaler.code, Scaler.window, numberOf]
  | active w => simp [scalerBytes, Scaler.code, Scaler.window, numberOf]

theorem layout_counters (t : Table FrontEnd 12) :
    layout ((List.finRange 12).flatMap fun i =>
      [(1, (t.get i).counterKind.code.toNat), (1, (t.get i).snapshotMode.code.toNat), (2, (t.get i).snap),
        (1, bit (t.get i).snapOver), (2, (t.get i).count), (1, bit (t.get i).countOver)]) = t.items.flatMap countersEntry := by
  rw [layout_flatMap, flatMap_items]
  congr
  funext i
  simp [countersEntry]

theorem layout_record (x : Option RefusalRecord) :
    layout (match x with
      | some r => [(1, r.kind.toNat), (1, r.screen.val + 1), (1, match r.reason with | .pinned => 0x10 | .held => 0x11)]
      | none => [(1, 0), (1, 0), (1, 0)]) = recordBytes x := by
  cases x with
  | none => rfl
  | some r =>
    obtain ⟨kind, screen, reason⟩ := r
    cases reason <;> simp [recordBytes] <;> rfl

/-- CHANGE_PENDING is that the Live copy and the Staged record differ (R10). -/
theorem changePending_eq (s : State) (scr : ScreenIx) :
    s.changePending scr = decide ((s.comps.get scr).live ≠ s.staged.get scr) := by
  by_cases h : (s.comps.get scr).live = s.staged.get scr
  · simp [State.changePending, h]
  · simp [State.changePending, h]

theorem val_wallWindow (scr : ScreenIx) (k : WindowIx) : (wallWindow scr k).val = 4 * scr.val + k.val := by
  simp [wallWindow, Nat.mul_comm]

/-- Settles O27: the codes by evaluation, the lengths and the layouts part by part. -/
theorem replyBodiesHaveTheirLengths : Obligations.ReplyBodiesHaveTheirLengths := by
  refine ⟨?codes, ?kinds, fun s l tag => ⟨⟨fun scr => ?screenLength, fun w => ?windowLength, fun i => ?inputLength,
    fun z => ?zoneLength, ?poolLength, ?countersLength, rfl, ?eventsLength, rfl⟩, ?events, fun scr => ?screen,
    fun scr k => ?window, fun i => ?input, fun z => ?zone, ?pool, ?counters, ?link⟩⟩
  case codes =>
    exact ⟨rfl, rfl, rfl, rfl, rfl, rfl, rfl, rfl, rfl, rfl, rfl, rfl, rfl, rfl, rfl, rfl, fun _ _ _ => rfl, rfl, rfl⟩
  case kinds => exact ⟨rfl, rfl, fun _ => rfl, fun _ => rfl, rfl⟩
  case screenLength => simp [State.resultBody, State.resultContent, State.screenContent, windowsInOrder]
  case windowLength => simp [State.resultBody, State.resultContent, State.windowContent]
  case inputLength =>
    unfold State.resultBody State.resultContent State.inputContent
    simp
  case zoneLength =>
    simp +arith [State.resultBody, State.resultContent, State.zoneContent, length_flatMap_of_width length_contributionBytes]
  case poolLength =>
    simp +arith [State.resultBody, State.resultContent, State.poolContent, length_flatMap_of_width length_scalerBytes, Table.size]
  case countersLength =>
    simp [State.resultBody, State.resultContent, State.countersContent, length_flatMap_of_width length_countersEntry, Table.size]
  case eventsLength => simp [LinkState.eventsBody]
  case events =>
    simp [LinkState.eventsBody, EventState.latchBits, EventState.indices, EventKind.ix]
    exact (layout_record _).symm
  case screen =>
    simp [State.resultBody, State.resultContent, State.screenContent, changePending_eq, windowsInOrder, Query.kind,
      QueryKind.code]
  case window =>
    simp only [layout_append, layout_requestEntry]
    simp [State.resultBody, State.resultContent, State.windowContent, Query.kind, QueryKind.code, val_wallWindow]
  case input =>
    unfold State.resultBody State.resultContent State.inputContent
    cases h : (s.fronts.get i).slateTimer with
    | stopped => simp [Query.kind, QueryKind.code, counterBytes, slateTimerBytes, beq_eq_decide, h]
    | running ms => simp [Query.kind, QueryKind.code, counterBytes, slateTimerBytes, beq_eq_decide, h]
    | indefinite => simp [Query.kind, QueryKind.code, counterBytes, slateTimerBytes, h]
  case zone =>
    by_cases h : (s.zones.get z).record.mode = .follow
    · simp [State.resultBody, State.resultContent, State.zoneContent, Query.kind, QueryKind.code, layout_contributions, ducked,
        State.followed, h]
    · simp [State.resultBody, State.resultContent, State.zoneContent, Query.kind, QueryKind.code, layout_contributions, ducked,
        h]
  case pool =>
    simp [State.resultBody, State.resultContent, State.poolContent, Query.kind, QueryKind.code]
    exact (layout_scalers _).symm
  case counters =>
    simp [State.resultBody, State.resultContent, State.countersContent, Query.kind, QueryKind.code, layout_counters]
  case link =>
    simp [State.resultBody, State.resultContent, State.linkContent, Query.kind, QueryKind.code]
    exact ⟨by cases l <;> rfl, by cases s.rank <;> rfl, by cases (s.link l).rate <;> rfl⟩

end Sys2Proof.Machine
end

section
/-! PROOF. What the stages of a commit do to the windows of their screen: the requests, the placements, the slots, and the entry to STANDBY. -/

namespace Sys2Proof.Machine

/-! ## Tables -/

theorem lowest_eq_some {α : Type} {n : Nat} (t : Table α n) (p : α → Bool) (i : Fin n) :
    t.lowest p = some i ↔ p (t.get i) = true ∧ ∀ j, j < i → p (t.get j) = false := by
  unfold Table.lowest
  rw [List.find?_eq_some_iff_getElem]
  simp only [List.getElem_finRange, List.length_finRange, Fin.cast_mk, Bool.not_eq_true']
  refine and_congr_right fun _ => ⟨?_, fun h => ?_⟩
  · rintro ⟨m, hm, rfl, h⟩ j hj
    exact h j.val hj
  · exact ⟨i.val, i.isLt, rfl, fun j hj => h ⟨j, by omega⟩ hj⟩

theorem lowest_eq_none {α : Type} {n : Nat} (t : Table α n) (p : α → Bool) : t.lowest p = none ↔ ∀ i, p (t.get i) = false := by
  simp [Table.lowest, List.find?_eq_none]

/-- Of two writes to one entry the later stands. -/
theorem table_set_modify {α : Type} {n : Nat} (t : Table α n) (i : Fin n) (f : α → α) (x : α) : (t.modify i f).set i x = t.set i x := by
  refine Table.ext_get fun j => ?_
  rw [Table.get_set, Table.get_set, Table.get_modify]
  split
  · rfl
  · rfl

theorem plan_wallWindow (s : State) (scr : ScreenIx) (k : WindowIx) :
    s.plan (wallWindow scr k) = (s.comps.get scr).plans.get k := by
  simp [State.plan]

/-! ## The request stage (R43, R48) -/

section Request
variable {s : State} {scr : ScreenIx} {k : WindowIx} {joined : Bool}

/-- A window that needs no scaler takes the service of its need. -/
theorem requestWindow_of_need (h : s.needOf scr k ≠ .scaler) :
    State.requestWindow scr (s, joined) k =
      (s.setPlan (wallWindow scr k) { s.plan (wallWindow scr k) with service := (s.needOf scr k).service }, joined) := by
  unfold State.requestWindow
  simp only

/-- A window that holds a scaler it uses, or waits for one, stands. -/
theorem requestWindow_stands (h : s.needOf scr k = .scaler)
    (hq : (s.plan (wallWindow scr k)).service = .scaled ∨ (s.plan (wallWindow scr k)).service = .waiting) :
    State.requestWindow scr (s, joined) k = (s, joined) := by
  rcases hq with hq | hq
  · simp [State.requestWindow, h, hq]
  · simp [State.requestWindow, h, hq]

/-- A GRANTED window takes its scaler into use. -/
theorem requestWindow_granted (h : s.needOf scr k = .scaler) {n : ScalerIx}
    (hq : (s.plan (wallWindow scr k)).service = .granted) (hn : (s.plan (wallWindow scr k)).scaler = some n) :
    State.requestWindow scr (s, joined) k = (s.activate n (wallWindow scr k), joined) := by
  simp [State.requestWindow, h, hq, hn]

/-- A window that holds no scaler and does not wait asks for one, unless its screen is ECONOMY. -/
theorem requestWindow_fresh (h : s.needOf scr k = .scaler)
    (hq : (s.plan (wallWindow scr k)).service = .off ∨ (s.plan (wallWindow scr k)).service = .offscreen ∨
      (s.plan (wallWindow scr k)).service = .exact ∨ (s.plan (wallWindow scr k)).service = .economy) :
    State.requestWindow scr (s, joined) k =
      if s.economy scr then
        (s.setPlan (wallWindow scr k) { s.plan (wallWindow scr k) with service := .economy }, joined)
      else
        match s.pool.freeScaler with
        | some n => (s.activate n (wallWindow scr k), joined)
        | none =>
          ((s.setPool (s.pool.join (wallWindow scr k))).setPlan (wallWindow scr k)
            { s.plan (wallWindow scr k) with service := .waiting }, true) := by
  rcases hq with hq | hq | hq | hq <;> simp only [State.requestWindow, h, hq] <;> rfl

theorem economy_iff : s.economy scr = true ↔ (s.comps.get scr).live.settings.cls = .economy := by simp [State.economy]

theorem freeScaler_eq_some (p : Pool) (n : ScalerIx) :
    p.freeScaler = some n ↔ p.scalers.get n = .free ∧ ∀ m, m < n → p.scalers.get m ≠ .free := by
  simp [Pool.freeScaler, lowest_eq_some]

theorem freeScaler_eq_none (p : Pool) : p.freeScaler = none ↔ ∀ n, p.scalers.get n ≠ .free := by
  simp [Pool.freeScaler, lowest_eq_none]

end Request

/-- A window's request raises nothing. -/
theorem link_requestWindow (scr : ScreenIx) (st : State × Bool) (k : WindowIx) (l : Link) :
    (State.requestWindow scr st k).1.link l = st.1.link l := by
  rcases State.requestWindow_cases scr st k with ⟨h, -⟩ | ⟨p, q, h, -⟩
  · rw [h]
  · simp [h]

/-- A window that is not GRANTED is not granted by a request, and its own request leaves no window GRANTED. -/
theorem requestWindow_not_granted (scr : ScreenIx) (st : State × Bool) (j k : WindowIx)
    (h : j = k ∨ (st.1.plan (wallWindow scr j)).service ≠ .granted) :
    ((State.requestWindow scr st k).1.plan (wallWindow scr j)).service ≠ .granted := by
  rcases State.requestWindow_cases scr st k with ⟨e, hg⟩ | ⟨p, q, e, hg⟩
  · rw [e]
    rcases h with rfl | h
    · exact hg
    · exact h
  · rw [e]
    by_cases hw : wallWindow scr k = wallWindow scr j
    · rw [← hw, State.plan_setPlan_self]
      exact hg
    · rw [State.plan_setPlan_of_ne _ _ hw]
      exact h.resolve_left fun hjk => hw (congrArg (wallWindow scr) hjk.symm)

theorem requestWindows_not_granted (scr : ScreenIx) (ks : List WindowIx) (st : State × Bool) (j : WindowIx)
    (h : j ∈ ks ∨ (st.1.plan (wallWindow scr j)).service ≠ .granted) :
    ((ks.foldl (State.requestWindow scr) st).1.plan (wallWindow scr j)).service ≠ .granted := by
  induction ks generalizing st with
  | nil => exact h.resolve_left List.not_mem_nil
  | cons k ks ih =>
    refine ih _ ?_
    by_cases hj : j ∈ ks
    · exact .inl hj
    · refine .inr (requestWindow_not_granted scr st j k (h.imp_left fun hm => ?_))
      exact (List.mem_cons.mp hm).resolve_right hj

theorem link_requestWindows (scr : ScreenIx) (ks : List WindowIx) (st : State × Bool) (l : Link) :
    (ks.foldl (State.requestWindow scr) st).1.link l = st.1.link l := by
  induction ks generalizing st with
  | nil => rfl
  | cons k ks ih => exact (ih _).trans (link_requestWindow scr st k l)

/-! ### The placements -/

theorem plans_placeWindow (s : State) (scr : ScreenIx) (j k : WindowIx) :
    ((s.placeWindow scr k).comps.get scr).plans.get j =
      if k = j then ((s.comps.get scr).plans.get j).place ((s.comps.get scr).live.window j).rect
      else (s.comps.get scr).plans.get j := by
  simp only [State.placeWindow, State.comps_setComp, Table.get_set_self, Table.get_modify]
  split
  · next e => rw [e]
  · rfl

/-- Each window of a walk without repetition is placed once. -/
theorem plans_placeWindows (scr : ScreenIx) (ks : List WindowIx) (hd : ks.Nodup) (s : State) (j : WindowIx) :
    ((ks.foldl (State.placeWindow scr) s).comps.get scr).plans.get j =
      if j ∈ ks then ((s.comps.get scr).plans.get j).place ((s.comps.get scr).live.window j).rect
      else (s.comps.get scr).plans.get j := by
  induction ks generalizing s with
  | nil => rfl
  | cons k ks ih =>
    obtain ⟨hk, hd⟩ := List.nodup_cons.mp hd
    rw [List.foldl_cons, ih hd, plans_placeWindow, (State.placeWindow_onlyPlans scr s k).live]
    by_cases e : k = j
    · subst e
      simp [hk]
    · have e' : ¬ j = k := fun h => e h.symm
      simp [e, e']

/-- A placement leaves pool and links. -/
theorem placeWindows_frame (scr : ScreenIx) (ks : List WindowIx) (s : State) :
    (ks.foldl (State.placeWindow scr) s).pool = s.pool ∧ ∀ l, (ks.foldl (State.placeWindow scr) s).link l = s.link l :=
  foldl_keeps (P := fun t => t.pool = s.pool ∧ ∀ l, t.link l = s.link l) (f := State.placeWindow scr)
    (fun t _ h => ⟨h.1, fun l => (State.link_setComp t scr _ l).trans (h.2 l)⟩) ks ⟨rfl, fun _ => rfl⟩

theorem service_place (q : Plan) (r : Rect) : (q.place r).service = q.service := by
  unfold Plan.place
  split
  · next h => exact h.symm
  all_goals rfl

theorem windowsInOrder_nodup : windowsInOrder.Nodup := by decide

theorem mem_windowsInOrder (k : WindowIx) : k ∈ windowsInOrder := by revert k; decide

section RequestStage
variable (s : State) (scr : ScreenIx)

/-- The windows' requests, one after the other, and the flag that one has joined the list. -/
def State.asked : State × Bool := windowsInOrder.foldl (State.requestWindow scr) (s, false)

/-- The part when each window has then recorded the placement of its service. -/
def State.placed : State := windowsInOrder.foldl (State.placeWindow scr) (s.asked scr).1

theorem requestStage_eq :
    s.requestStage scr =
      if (s.asked scr).2 then (s.placed scr).raiseBoth .scalerWait (some scr.val) else s.placed scr := by
  unfold State.requestStage State.placed State.asked
  generalize windowsInOrder.foldl (State.requestWindow scr) (s, false) = st
  rfl

/-- But for the event SCALER_WAIT the stage ends with the placements. -/
theorem requestStage_onlyEvents : OnlyEvents (s.placed scr) (s.requestStage scr) := by
  rw [requestStage_eq]
  split
  · exact OnlyEvents.raiseBoth _ _ _
  · exact OnlyEvents.refl _

theorem pool_requestStage : (s.requestStage scr).pool = (s.asked scr).1.pool :=
  (requestStage_onlyEvents s scr).pool.trans (placeWindows_frame scr windowsInOrder (s.asked scr).1).1

theorem plans_requestStage (k : WindowIx) :
    ((s.requestStage scr).comps.get scr).plans.get k =
      (((s.asked scr).1.comps.get scr).plans.get k).place (((s.asked scr).1.comps.get scr).live.window k).rect := by
  rw [(requestStage_onlyEvents s scr).comps, State.placed, plans_placeWindows scr windowsInOrder windowsInOrder_nodup,
    if_pos (mem_windowsInOrder k)]

/-- SCALER_WAIT is raised to both links when a window has joined the list (R43). -/
theorem link_requestStage (l : Link) :
    (s.requestStage scr).link l =
      if (s.asked scr).2 = true then
        { s.link l with events := (s.link l).events.latch .scalerWait (some scr.val) } else s.link l := by
  have raised (t : State) : (t.raiseBoth .scalerWait (some scr.val)).link l =
      { t.link l with events := (t.link l).events.latch .scalerWait (some scr.val) } := by
    cases l <;> rfl
  have placed : (s.placed scr).link l = s.link l :=
    ((placeWindows_frame scr windowsInOrder (s.asked scr).1).2 l).trans (link_requestWindows scr windowsInOrder (s, false) l)
  rw [requestStage_eq]
  split
  · rw [raised, placed]
  · exact placed

theorem requestStage_not_granted (k : WindowIx) : (((s.requestStage scr).comps.get scr).plans.get k).service ≠ .granted := by
  rw [plans_requestStage, service_place, ← plan_wallWindow]
  exact requestWindows_not_granted scr windowsInOrder (s, false) k (.inl (mem_windowsInOrder k))

end RequestStage

/-! ## The slot stage (R65, R107) -/

/-- A slot given up loses one reader, and is FREE when none is left and it is not newest-ready. -/
theorem giveUp_eq (r : Ring) (n : SlotIx) :
    r.giveUp n =
      { r with
        slots := r.slots.set n
          (if (r.slots.get n).readers ≤ 1 ∧ r.newest ≠ some n then .free
          else { r.slots.get n with readers := (r.slots.get n).readers - 1 }) } := by
  have unread : (r.slots.get n).readers - 1 = 0 ↔ (r.slots.get n).readers ≤ 1 := by omega
  simp only [Ring.giveUp, Ring.freeIfUnread, Table.get_modify_self, unread, table_set_modify]
  split
  · rfl
  · rfl

section GiveUp
variable (old : Compositor) (s : State) (k : WindowIx)

theorem giveUpSlot_of_none (h : (old.plans.get k).source = none ∨ (old.plans.get k).slot = none) : s.giveUpSlot old k = s := by
  unfold State.giveUpSlot
  simp only
  split
  · next hi hn =>
    rcases h with h | h
    · cases hi.symm.trans h
    · cases hn.symm.trans h
  · rfl

theorem giveUpSlot_of_some {i : InputIx} {n : SlotIx} (hi : (old.plans.get k).source = some i)
    (hn : (old.plans.get k).slot = some n) :
    s.giveUpSlot old k = { s with rings := s.rings.set i ((s.rings.get i).giveUp n) } := by
  simp only [State.giveUpSlot, hi, hn]
  rfl

theorem comps_giveUpSlot : (s.giveUpSlot old k).comps = s.comps := by
  unfold State.giveUpSlot
  simp only
  split
  · rfl
  · rfl

end GiveUp

/-- A window's slot changes no service. -/
theorem service_takeSlot (s : State) (scr : ScreenIx) (j k : WindowIx) :
    (((s.takeSlot scr k).comps.get scr).plans.get j).service = ((s.comps.get scr).plans.get j).service := by
  cases h : s.slotFor scr k with
  | some x =>
    rw [takeSlot_of_some s h]
    simp only [Table.get_set_self, Table.get_modify]
    split
    · rfl
    · rfl
  | none =>
    rw [takeSlot_of_none s h]
    simp only [Table.get_set_self, Table.get_modify]
    split
    · rfl
    · rfl

theorem service_slotStage (old : Compositor) (s : State) (scr : ScreenIx) (j : WindowIx) :
    (((s.slotStage old scr).comps.get scr).plans.get j).service = ((s.comps.get scr).plans.get j).service := by
  have given := foldl_keeps (P := fun t => t.comps = s.comps) (fun t k h => (comps_giveUpSlot old t k).trans h) windowsInOrder
    (s := s) rfl
  refine foldl_keeps (P := fun t => ((t.comps.get scr).plans.get j).service = ((s.comps.get scr).plans.get j).service)
    (fun t k h => (service_takeSlot t scr j k).trans h) windowsInOrder ?_
  rw [given]

/-! ## The standby stage (R53, R66) -/

section Standby
variable (old : Compositor) (s : State) (scr : ScreenIx)

/-- The part when a screen that enters STANDBY has given up its scalers and slots. -/
def State.freed : State := windowsInOrder.foldl (State.giveUpSlot old) (windowsInOrder.foldl (State.standbyRelease scr) s)

theorem freed_onlyPlans : OnlyPlans s (s.freed old scr) :=
  (OnlyPlans.foldl (State.standbyRelease_onlyPlans scr) _ s).trans
    (OnlyPlans.foldl (fun t k => State.giveUpSlot_onlyPlans t old k) _ _)

theorem standbyStage_eq : s.standbyStage old scr = (s.freed old scr).modComp scr Compositor.sleep := rfl

@[simp] theorem comp_standbyStage : (s.standbyStage old scr).comps.get scr = ((s.freed old scr).comps.get scr).sleep := by
  simp [standbyStage_eq]

end Standby

/-- A sleeping window shows nothing. -/
theorem visible_sleep (q : Plan) (r : Rect) : (q.sleep r).v.w = 0 ∧ (q.sleep r).v.h = 0 := by
  unfold Plan.sleep
  split
  · exact ⟨rfl, rfl⟩
  · exact ⟨rfl, rfl⟩

/-- A sleeping window is OFF without a source and OFFSCREEN with one. -/
theorem service_sleep (q : Plan) (r : Rect) : (q.sleep r).service = if q.source = none then .off else .offscreen := by
  unfold Plan.sleep
  split
  · next h => rw [if_pos h, Plan.off]
  · next h => rw [if_neg (by rw [h]; nofun)]

end Sys2Proof.Machine
end

section
/-! PROOF. BOUNDARY: the commit of one screen, what it sets there, and what it leaves alone (R59, R61, R62). -/

namespace Sys2Proof.Machine

/-! ## What a commit leaves alone -/

/-- `t` is `s` in the Live records and run states of the other screens, in the records and queues of the whole wall, and in all of the links but their event states. -/
structure OnlyScreen (scr : ScreenIx) (s t : State) : Prop where
  live : ∀ k, k ≠ scr → (t.comps.get k).live = (s.comps.get k).live
  run : ∀ k, k ≠ scr → (t.comps.get k).run = (s.comps.get k).run
  staged : t.staged = s.staged
  pins : t.pins = s.pins
  zones : t.zones = s.zones
  detector : t.detector = s.detector
  marker : t.marker = s.marker
  link : ∀ l, t.link l = { s.link l with events := (t.link l).events }

namespace OnlyScreen

variable {scr : ScreenIx}

theorem trans {s t u : State} (h : OnlyScreen scr s t) (k : OnlyScreen scr t u) : OnlyScreen scr s u where
  live j hj := (k.live j hj).trans (h.live j hj)
  run j hj := (k.run j hj).trans (h.run j hj)
  staged := k.staged.trans h.staged
  pins := k.pins.trans h.pins
  zones := k.zones.trans h.zones
  detector := k.detector.trans h.detector
  marker := k.marker.trans h.marker
  link l := by rw [k.link l, h.link l]

theorem ofPlans {s t : State} (h : OnlyPlans s t) : OnlyScreen scr s t where
  live j _ := h.live j
  run j _ := h.run j
  staged := h.staged
  pins := h.pins
  zones := h.zones
  detector := h.detector
  marker := h.marker
  link := h.link

theorem ofInputs {P : InputIx → Prop} {s t : State} (h : OnlyInputs P s t) : OnlyScreen scr s t where
  live _ _ := by rw [h.comps]
  run _ _ := by rw [h.comps]
  staged := h.staged
  pins := h.pins
  zones := h.zones
  detector := h.detector
  marker := h.marker
  link := h.link

theorem modComp (s : State) (g : Compositor → Compositor) : OnlyScreen scr s (s.modComp scr g) where
  live j hj := by rw [State.comps_modComp, Table.get_set_of_ne _ _ hj.symm]
  run j hj := by rw [State.comps_modComp, Table.get_set_of_ne _ _ hj.symm]
  staged := rfl
  pins := rfl
  zones := rfl
  detector := rfl
  marker := rfl
  link l := by rw [State.link_modComp]

theorem copyStage (s : State) : OnlyScreen scr s (s.copyStage scr) := by
  unfold State.copyStage
  split
  · exact modComp s _
  · exact ofPlans (OnlyPlans.refl s)

theorem startFrame (s : State) (leadIn : Bool) : OnlyScreen scr s (s.startFrame scr leadIn) :=
  (modComp s _).trans (ofInputs (State.startLoopedFrames_frame _ scr))

theorem standbyStage (old : Compositor) (s : State) : OnlyScreen scr s (s.standbyStage old scr) :=
  (ofPlans (freed_onlyPlans old s scr)).trans (modComp _ _)

end OnlyScreen

/-! ## The commit -/

/-- No window of a sleeping screen reads a slot, holds a scaler, or shows anything. -/
theorem plans_asleep (c : Compositor) (k : WindowIx) :
    (c.sleep.plans.get k).slot = none ∧ (c.sleep.plans.get k).scaler = none ∧ (c.sleep.plans.get k).v.w = 0 ∧
      (c.sleep.plans.get k).v.h = 0 ∧
      (c.sleep.plans.get k).service = if (c.sleep.plans.get k).source = none then .off else .offscreen := by
  rw [plan_sleep]
  obtain ⟨hw, hh⟩ := visible_sleep (c.plans.get k) (c.live.window k).rect
  exact ⟨slot_sleep _ _, scaler_sleep _ _, hw, hh, by rw [source_sleep, service_sleep]⟩

section Commit
variable (s : State) (scr : ScreenIx)

/-- The Live record of a screen after its commit: Staged, unless the screen is held (R62). -/
def State.nextLive : ScreenRecord :=
  if (s.holds.get scr).holder = none then s.staged.get scr else (s.comps.get scr).live

/-- The part after the copy stage and the plan stage. -/
def State.planned : State := (s.copyStage scr).planStage (s.comps.get scr) scr

theorem live_copyStage : ((s.copyStage scr).comps.get scr).live = s.nextLive scr := by
  unfold State.copyStage State.nextLive
  split
  · simp
  · rfl

theorem run_copyStage : ((s.copyStage scr).comps.get scr).run = (s.comps.get scr).run := by
  unfold State.copyStage
  split
  · simp
  · rfl

theorem live_planned : ((s.planned scr).comps.get scr).live = s.nextLive scr :=
  ((State.planStage_onlyPlans scr _ _).live scr).trans (live_copyStage s scr)

theorem run_planned : ((s.planned scr).comps.get scr).run = (s.comps.get scr).run :=
  ((State.planStage_onlyPlans scr _ _).run scr).trans (run_copyStage s scr)

/-- The part before the new frame of a screen that stays ACTIVE. -/
def State.served : State :=
  (((s.planned scr).releaseStage (s.comps.get scr) scr).requestStage scr).slotStage (s.comps.get scr) scr

/-- The part before the standby stage of a screen that enters STANDBY. -/
def State.released : State := ((s.planned scr).leaveAll scr).releasePasses scr

theorem served_onlyPlans : OnlyPlans (s.planned scr) (s.served scr) :=
  ((State.releaseStage_onlyPlans scr _ _).trans (State.requestStage_onlyPlans scr _)).trans
    (State.slotStage_onlyPlans scr _ _)

theorem released_onlyPlans : OnlyPlans (s.planned scr) (s.released scr) :=
  (State.leaveAll_onlyPlans scr _).trans (State.releasePasses_onlyPlans scr _)

/-- The stages of the commit in their order; the copied standby flag chooses the path (R61, R62). -/
theorem commit_eq :
    s.commit scr =
      if (s.nextLive scr).settings.standby then (s.released scr).standbyStage (s.comps.get scr) scr
      else (s.served scr).startFrame scr false := by
  rw [← live_planned]
  unfold State.commit State.released State.served State.planned
  simp only

theorem commit_onlyScreen : OnlyScreen scr s (s.commit scr) := by
  have planned : OnlyScreen scr s (s.planned scr) :=
    (OnlyScreen.copyStage s).trans (.ofPlans (State.planStage_onlyPlans scr _ _))
  rw [commit_eq]
  split
  · exact (planned.trans (.ofPlans (released_onlyPlans s scr))).trans (.standbyStage _ _)
  · exact (planned.trans (.ofPlans (served_onlyPlans s scr))).trans (.startFrame _ _)

/-- A frame of one Live period begins on the compositor as it stands (R59). -/
theorem comp_startFrame (leadIn : Bool) :
    (s.startFrame scr leadIn).comps.get scr =
      { s.comps.get scr with
        timing := .running (s.comps.get scr).live.settings.rate.period (s.comps.get scr).live.settings.rate.period leadIn } := by
  unfold State.startFrame
  rw [(State.startLoopedFrames_frame _ scr).comps]
  simp

section StartFrame
variable (leadIn : Bool)

theorem live_startFrame : ((s.startFrame scr leadIn).comps.get scr).live = (s.comps.get scr).live := by rw [comp_startFrame]

theorem run_startFrame : ((s.startFrame scr leadIn).comps.get scr).run = (s.comps.get scr).run := by rw [comp_startFrame]

theorem plans_startFrame : ((s.startFrame scr leadIn).comps.get scr).plans = (s.comps.get scr).plans := by
  rw [comp_startFrame]

theorem timing_startFrame : ((s.startFrame scr leadIn).comps.get scr).timing =
    .running (s.comps.get scr).live.settings.rate.period (s.comps.get scr).live.settings.rate.period leadIn := by
  rw [comp_startFrame]

end StartFrame

/-- A screen that stays ACTIVE: its run state, the frame that begins, and no window GRANTED (R48, R59). -/
theorem commit_active (h : (s.nextLive scr).settings.standby = false) :
    ((s.commit scr).comps.get scr).live = s.nextLive scr ∧
      ((s.commit scr).comps.get scr).run = (s.comps.get scr).run ∧
      ((s.commit scr).comps.get scr).timing =
        .running (s.nextLive scr).settings.rate.period (s.nextLive scr).settings.rate.period false ∧
      ∀ k, (((s.commit scr).comps.get scr).plans.get k).service ≠ .granted := by
  have live : ((s.served scr).comps.get scr).live = s.nextLive scr :=
    ((served_onlyPlans s scr).live scr).trans (live_planned s scr)
  rw [commit_eq, if_neg (by simp [h]), live_startFrame, run_startFrame, timing_startFrame, plans_startFrame, live]
  refine ⟨rfl, ((served_onlyPlans s scr).run scr).trans (run_planned s scr), rfl, fun k => ?_⟩
  rw [State.served, service_slotStage]
  exact requestStage_not_granted _ scr k

/-- A screen that enters STANDBY: no frame, no slot, no scaler, and nothing visible (R53, R66). -/
theorem commit_standby (h : (s.nextLive scr).settings.standby = true) :
    ((s.commit scr).comps.get scr).live = s.nextLive scr ∧
      ((s.commit scr).comps.get scr).run = .standby ∧ ((s.commit scr).comps.get scr).timing = .stopped ∧
      ∀ k, (((s.commit scr).comps.get scr).plans.get k).slot = none ∧
        (((s.commit scr).comps.get scr).plans.get k).scaler = none ∧
        (((s.commit scr).comps.get scr).plans.get k).v.w = 0 ∧ (((s.commit scr).comps.get scr).plans.get k).v.h = 0 ∧
        (((s.commit scr).comps.get scr).plans.get k).service =
          if (((s.commit scr).comps.get scr).plans.get k).source = none then .off else .offscreen := by
  rw [commit_eq, if_pos h, comp_standbyStage]
  have live := ((freed_onlyPlans (s.comps.get scr) (s.released scr) scr).live scr).trans
    (((released_onlyPlans s scr).live scr).trans (live_planned s scr))
  exact ⟨(live_sleep _).trans live, run_sleep _, timing_sleep _, plans_asleep _⟩

/-! ## BOUNDARY -/

theorem exec_boundary_standby (h : (s.comps.get scr).run = .standby) : exec (.boundary scr) s = .next s := if_pos h

/-- The part at the moment of a screen's commit: the time to its boundary has passed, and the inputs looped from it have taken its frame (R59, R92). -/
def State.atBoundary : State := (s.elapse (s.toBoundary scr)).endLoopedFrames scr

theorem exec_boundary_active (h : (s.comps.get scr).run = .active) :
    exec (.boundary scr) s = .next ((s.atBoundary scr).commit scr) := if_neg (by rw [h]; nofun)

theorem atBoundary_onlyScreen : OnlyScreen scr (s.elapse (s.toBoundary scr)) (s.atBoundary scr) :=
  .ofInputs (State.endLoopedFrames_frame _ scr)

/-- Compositors are at their boundary what they were before, but for their timing. -/
theorem comp_atBoundary (k : ScreenIx) :
    (s.atBoundary scr).comps.get k =
      { s.comps.get k with timing := (s.comps.get k).timing.elapse (s.toBoundary scr) } := by
  rw [State.atBoundary, (State.endLoopedFrames_frame _ scr).comps, State.comp_elapse]

/-- No hold begins or ends on the way to a boundary. -/
theorem nextLive_atBoundary : (s.atBoundary scr).nextLive scr = s.nextLive scr := by
  unfold State.nextLive
  rw [comp_atBoundary, State.atBoundary, (State.endLoopedFrames_frame _ scr).holds, (State.endLoopedFrames_frame _ scr).staged,
    State.holder_elapse, State.staged_elapse]

end Commit

/-- Settles O49: the commit at the boundary, then the stages one by one. -/
theorem boundaryCopiesAndBeginsAFrame : Obligations.BoundaryCopiesAndBeginsAFrame := by
  refine ⟨fun s scr => ⟨exec_boundary_standby s scr, fun hrun => ?boundary⟩, fun s scr k joined => ?request,
    fun old s scr => ?standby, fun old s k => ?giveUp, fun s scr leadIn => ⟨rfl, rfl, rfl⟩, ⟨rfl, rfl, rfl⟩,
    fun s scr => ?requestStage⟩
  case requestStage =>
    intro asked t
    have h : asked = s.asked scr := rfl
    clear_value asked
    subst h
    exact ⟨pool_requestStage s scr, plans_requestStage s scr, link_requestStage s scr⟩
  case boundary =>
    intro live left u v planned
    have hlive : v.nextLive scr = live := nextLive_atBoundary s scr
    have others : OnlyScreen scr u (v.commit scr) := (atBoundary_onlyScreen s scr).trans (commit_onlyScreen v scr)
    have hrun' : (v.comps.get scr).run = .active := by
      rw [show v = s.atBoundary scr from rfl, comp_atBoundary]
      exact hrun
    refine ⟨v.commit scr, exec_boundary_active s scr hrun, ?live, ?stages, fun h => ?active, fun h => ?sleeping,
      fun k hk => ⟨?_, ?_⟩, ?_, others.pins, ?_, ?_, ?_, fun l => ?_⟩
    case live =>
      cases h : (v.nextLive scr).settings.standby with
      | false => exact hlive ▸ (commit_active v scr h).1
      | true => exact hlive ▸ (commit_standby v scr h).1
    case stages =>
      rw [← hlive]
      exact commit_eq v scr
    case active =>
      obtain ⟨-, run, timing, granted⟩ := commit_active v scr (hlive ▸ h)
      exact ⟨run.trans hrun', hlive ▸ timing, granted⟩
    case sleeping => exact (commit_standby v scr (hlive ▸ h)).2
    · rw [others.live k hk, State.comp_elapse]
    · rw [others.run k hk, State.comp_elapse]
    · rw [others.staged, State.staged_elapse]
    · rw [others.zones, State.zones_elapse]
    · rw [others.detector, State.detector_elapse]
    · rw [others.marker, State.marker_elapse]
    · rw [others.link l, State.link_elapse]
      exact ⟨rfl, rfl⟩
  case request =>
    intro w q done fresh economy active
    refine ⟨fun h => ?_, fun h => ?_, fun h => ?_, fun h => ⟨requestWindow_stands h, fun n => requestWindow_granted h,
      fun hq he => ?_, fun n hq he hfree hlow => ?_, fun hq he hnone => ?_⟩⟩
    · simpa [h, Need.service] using requestWindow_of_need (joined := joined) (h.trans_ne nofun)
    · simpa [h, Need.service] using requestWindow_of_need (joined := joined) (h.trans_ne nofun)
    · simpa [h, Need.service] using requestWindow_of_need (joined := joined) (h.trans_ne nofun)
    · exact (requestWindow_fresh h hq).trans (if_pos (economy_iff.mpr he))
    · refine (requestWindow_fresh h hq).trans ((if_neg (economy_iff.not.mpr he)).trans ?_)
      rw [(freeScaler_eq_some s.pool n).mpr ⟨hfree, hlow⟩]
      rfl
    · refine (requestWindow_fresh h hq).trans ((if_neg (economy_iff.not.mpr he)).trans ?_)
      rw [(freeScaler_eq_none s.pool).mpr hnone]
      rfl
  case standby =>
    intro given freed c t slept
    have plan (k : WindowIx) : (t.comps.get scr).plans.get k = (c.plans.get k).sleep (c.live.window k).rect := by
      rw [show (t.comps.get scr) = c.sleep from comp_standbyStage old s scr, plan_sleep]
    refine ⟨?_, fun k => ⟨fun h => ?_, fun h => ?_⟩⟩
    · have sleeping : slept = c.sleep := by
        simp only [slept, show (t.comps.get scr) = c.sleep from comp_standbyStage old s scr]
        rfl
      rw [sleeping]
      rfl
    · exact (plan k).trans (sleep_of_none _ _ h)
    · exact ⟨_, _, (plan k).trans (sleep_of_source _ _ h)⟩
  case giveUp =>
    intro q
    refine ⟨giveUpSlot_of_none old s k, fun i n hi hn => ?_⟩
    intro r x left
    rw [giveUpSlot_of_some old s k hi hn, giveUp_eq]

end Sys2Proof.Machine
end

section
/-! PROOF. The planner of one window and the plan stage (R18 to R25, R63): the steps, the effective crop, and which windows are planned afresh. -/

namespace Sys2Proof.Machine

/-! ## Effective crop and steps (R22 to R25) -/

section Crop
variable {raster near far : Nat}

/-- Margins that leave at least 16 pixels are cut off. -/
theorem effectiveCrop_of_fits (h : near + far + 16 ≤ raster) :
    effectiveCrop raster near far = ⟨near, raster - near - far, false⟩ := if_neg (by omega)

/-- Margins that leave fewer are ignored. -/
theorem effectiveCrop_of_short (h : raster < near + far + 16) : effectiveCrop raster near far = ⟨0, raster, true⟩ := if_pos h

theorem ignored_effectiveCrop : (effectiveCrop raster near far).ignored = decide (raster < near + far + 16) := by
  by_cases h : raster < near + far + 16
  · simp [effectiveCrop_of_short h, h]
  · simp [effectiveCrop_of_fits (not_lt.mp h), h]

end Crop

theorem step1_range (crop rect : Nat) : 512 ≤ step1 crop rect ∧ step1 crop rect ≤ 32768 := by
  unfold step1
  omega

section Step
variable {crop rect : Nat}

theorem step1_of_inside (h1 : 512 ≤ rawStep crop rect) (h2 : rawStep crop rect ≤ 32768) : step1 crop rect = rawStep crop rect := by
  unfold step1
  omega

theorem step1_of_below (h : rawStep crop rect < 512) : step1 crop rect = 512 := by
  unfold step1
  omega

theorem step1_of_above (h : 32768 < rawStep crop rect) : step1 crop rect = 32768 := by
  unfold step1
  omega

/-- The raw step is `n` exactly when `crop × 4096` rounds to `n × rect`. -/
theorem rawStep_eq_iff (h : 0 < rect) (n : Nat) :
    rawStep crop rect = n ↔ n * rect ≤ crop * 4096 + rect / 2 ∧ crop * 4096 + rect / 2 < n * rect + rect := by
  rw [rawStep, Nat.div_eq_iff h]
  have grow : (n + 1) * rect = n * rect + rect := Nat.succ_mul n rect
  constructor
  · rintro ⟨h1, h2⟩
    exact ⟨h1, by omega⟩
  · rintro ⟨h1, h2⟩
    exact ⟨h1, by omega⟩

/-- For a rectangle of at most 3840 pixels the rounding reaches no other crop: a step of `d` source pixels is that of a crop of `d × rect` alone (R23). -/
theorem rawStep_eq_mul_iff (h : 0 < rect) (hmax : rect ≤ 3840) (d : Nat) : rawStep crop rect = d * 4096 ↔ crop = d * rect := by
  have scale : d * 4096 * rect = 4096 * (d * rect) := by ring
  rw [rawStep_eq_iff h, scale]
  omega

end Step

/-! ## Planning one window (R18, R20, R21) -/

theorem requestChanged_iff (old new : ScreenRecord) (k : WindowIx) :
    requestChanged old new k = true ↔
      if h : 1 ≤ k.val then old.insets.get ⟨k.val - 1, by omega⟩ ≠ new.insets.get ⟨k.val - 1, by omega⟩
      else old.main ≠ new.main := by
  unfold requestChanged insetOf
  split_ifs
  · simp
  · simp

theorem leadIn_iff (t : Timing) : t.leadIn = true ↔ ∃ period left, t = .running period left true := by
  cases t <;> simp [Timing.leadIn]

/-- The five conditions of R20. -/
theorem selected_iff (old : Compositor) (new : ScreenRecord) (k : WindowIx) (q : Plan) (raster : Nat × Nat) :
    selected old new k q raster = true ↔
      requestChanged old.live new k = true ∨ old.live.settings.cls ≠ new.settings.cls ∨ raster ≠ (q.ws, q.hs) ∨
        q.service = .off ∨ (q.service = .offscreen ∧ ∃ period left, old.timing = .running period left true) := by
  rw [← leadIn_iff, ne_comm (a := raster)]
  simp only [selected, Bool.or_eq_true, Bool.and_eq_true, bne_iff_ne, beq_iff_eq]
  tauto

section PlanWindow
variable (old : Compositor) (scr : ScreenIx) (s : State) (k : WindowIx)

/-- A window without a source gets the OFF plan, and one with a source is planned afresh where it is selected. -/
def State.plannedPlan : Plan :=
  let c := s.comps.get scr
  let q := c.plans.get k
  match (c.live.window k).source with
  | none => q.close
  | some i =>
    if selected old c.live k q (s.planningRaster i) then
      q.replan (c.live.window k) (s.planningRaster i).1 (s.planningRaster i).2
    else q

/-- What a window's source is shown as from this commit on; without a source the entry stands. -/
def State.plannedShown : Shown :=
  match ((s.comps.get scr).live.window k).source with
  | none => (s.comps.get scr).shown.get k
  | some i => s.sourceShown i

theorem planWindow_eq :
    State.planWindow old scr s k =
      s.setComp scr
        { s.comps.get scr with
          plans := (s.comps.get scr).plans.set k (s.plannedPlan old scr k)
          shown := (s.comps.get scr).shown.set k (s.plannedShown scr k) } := by
  cases h : ((s.comps.get scr).live.window k).source with
  | none => simp only [State.planWindow, State.plannedPlan, State.plannedShown, h, Table.set_get_self]
  | some i => simp only [State.planWindow, State.plannedPlan, State.plannedShown, h]

theorem comp_planWindow :
    (State.planWindow old scr s k).comps.get scr =
      { s.comps.get scr with
        plans := (s.comps.get scr).plans.set k (s.plannedPlan old scr k)
        shown := (s.comps.get scr).shown.set k (s.plannedShown scr k) } := by
  rw [planWindow_eq, State.comps_setComp, Table.get_set_self]

/-- Planning a window changes the compositor of its screen alone. -/
theorem planWindow_frame :
    State.planWindow old scr s k = { s with comps := s.comps.set scr ((State.planWindow old scr s k).comps.get scr) } := by
  rw [comp_planWindow, planWindow_eq]
  rfl

end PlanWindow

section Afresh
variable {old : Compositor} {scr : ScreenIx} {s : State} {k : WindowIx}

theorem plannedPlan_of_none (h : ((s.comps.get scr).live.window k).source = none) :
    s.plannedPlan old scr k = ((s.comps.get scr).plans.get k).close := by
  simp [State.plannedPlan, h]

theorem plannedShown_of_some {i : InputIx} (h : ((s.comps.get scr).live.window k).source = some i) :
    s.plannedShown scr k = s.sourceShown i := by
  simp [State.plannedShown, h]

theorem plannedPlan_of_some {i : InputIx} (h : ((s.comps.get scr).live.window k).source = some i) :
    s.plannedPlan old scr k =
      if selected old (s.comps.get scr).live k ((s.comps.get scr).plans.get k) (s.planningRaster i) then
        ((s.comps.get scr).plans.get k).replan ((s.comps.get scr).live.window k) (s.planningRaster i).1 (s.planningRaster i).2
      else (s.comps.get scr).plans.get k := by
  simp [State.plannedPlan, h]

end Afresh

/-- Settles O51: the steps, a plan made afresh, and the cases of one window. -/
theorem stepsAreRoundedAndClamped : Obligations.StepsAreRoundedAndClamped := by
  refine ⟨fun _ _ _ => rfl, fun crop rect hr => ?steps, fun q r ws hs => ?afresh, fun old scr s k => ?window⟩
  case steps =>
    intro raw
    obtain ⟨least, most⟩ := step1_range crop rect
    exact ⟨least, most, step1_of_inside, step1_of_below, step1_of_above,
      fun d _ hmax => rawStep_eq_mul_iff hr hmax d⟩
  case afresh =>
    intro p placed
    refine ⟨fun h => ?_, fun h => ?_, fun h => ?_, fun h => ?_, ?ignored, rfl, rfl, rfl, rfl, rfl, rfl, rfl, rfl, rfl, rfl, rfl,
      rfl, rfl⟩
    · simp [p, Plan.replan, effectiveCrop_of_fits h]
    · simp [p, Plan.replan, effectiveCrop_of_short h]
    · simp [p, Plan.replan, effectiveCrop_of_fits h]
    · simp [p, Plan.replan, effectiveCrop_of_short h]
    case ignored => simp [p, Plan.replan, ignored_effectiveCrop]
  case window =>
    intro c q r t after
    have comp : t.comps.get scr = _ := comp_planWindow old scr s k
    have plan : after = s.plannedPlan old scr k := by simp [after, comp]
    refine ⟨planWindow_frame old scr s k, by rw [comp], fun j hj => ?_, fun h => plan.trans (plannedPlan_of_none h),
      fun i hi => ?_⟩
    · rw [comp]
      exact ⟨Table.get_set_of_ne _ _ hj.symm, Table.get_set_of_ne _ _ hj.symm⟩
    · intro changed
      have chosen : selected old c.live k q (s.planningRaster i) = true ↔ changed := by
        rw [selected_iff, requestChanged_iff]
      rw [plan, plannedPlan_of_some hi]
      refine ⟨?_, fun h => if_pos (chosen.mpr h), fun h => if_neg (chosen.not.mpr h)⟩
      rw [comp, ← plannedShown_of_some hi]
      exact Table.get_set_self _ _ _

end Sys2Proof.Machine
end

section
/-! PROOF. What the stages after the plan stage keep for the slot stage, and the slot a window reads after the commit (R19, R65, R72, R106). -/

namespace Sys2Proof.Machine

/-! ## Picture or fill (R72) and the planning raster (R19) -/

section Source
variable {s : State} {i : InputIx}

/-- There is a picture to show when the ring has a newest-ready slot and the source is PRESENT or held. -/
theorem sourceShown_eq_picture :
    s.sourceShown i = .picture ↔
      (s.rings.get i).newest ≠ none ∧ ((s.fronts.get i).monitor = .present ∨ (s.fronts.get i).slate = .holding) := by
  unfold State.sourceShown
  simp only
  split
  · next h => simp [h]
  · next h => split <;> simp_all

/-- A source that is not shown as picture is shown as fill with its fill colour. -/
theorem sourceShown_of_ne_picture (h : s.sourceShown i ≠ .picture) : s.sourceShown i = .fill (s.fronts.get i).fillColour := by
  unfold State.sourceShown at h ⊢
  simp only at h ⊢
  split
  · rfl
  · split
    · simp_all
    · rfl

theorem planningRaster_of_picture (h : s.sourceShown i = .picture) {n : SlotIx} (hn : (s.rings.get i).newest = some n) :
    s.planningRaster i = (((s.rings.get i).slots.get n).width, ((s.rings.get i).slots.get n).height) := by
  simp [State.planningRaster, h, Ring.newestRaster, hn]

theorem planningRaster_of_fill (h : s.sourceShown i ≠ .picture) : s.planningRaster i = (1920, 1080) := by
  rw [State.planningRaster, sourceShown_of_ne_picture h]
  rfl

theorem sourceShown_congr {t : State} (hf : t.fronts = s.fronts) (hr : t.rings = s.rings) : t.sourceShown i = s.sourceShown i := by
  simp only [State.sourceShown, hf, hr]

end Source

/-! ## What has no part in pool and plans -/

/-- Neither a change of the pool nor one of a plan ends the property. -/
structure PoolPlanFree (P : State → Prop) : Prop where
  setPool : ∀ s p, P s → P (s.setPool p)
  setPlan : ∀ s w q, P s → P (s.setPlan w q)

/-- A placement writes its window's plan alone. -/
theorem placeWindow_eq_setPlan (s : State) (scr : ScreenIx) (k : WindowIx) :
    s.placeWindow scr k =
      s.setPlan (wallWindow scr k)
        (((s.comps.get scr).plans.get k).place ((s.comps.get scr).live.window k).rect) := by
  simp only [State.setPlan, State.modComp, State.screenOf_wallWindow, State.windowOf_wallWindow]
  rfl

namespace PoolPlanFree

variable {P : State → Prop} (h : PoolPlanFree P) {s : State} (hs : P s)
include h hs

theorem grant (n : ScalerIx) (w : WallWindow) : P (s.grant n w) := h.setPlan _ _ _ (h.setPool _ _ hs)

theorem offer (n : ScalerIx) : P (s.offer n) := by
  have captured : P s.captureFeature.captureAmbient := h.setPool _ _ (h.setPool _ _ hs)
  unfold State.offer
  split
  · exact h.grant hs n _
  · split
    · exact h.setPool _ _ (h.grant hs n _)
    · simp only
      split
      · exact h.grant captured n _
      · split
        · exact h.grant captured n _
        · exact h.setPool _ _ hs

theorem giveScaler (w : WallWindow) (service : Service) : P (s.giveScaler w service) := by
  unfold State.giveScaler
  split
  · exact h.offer (h.setPlan _ _ _ hs) _
  · exact h.setPlan _ _ _ hs

theorem leaveWindow (scr : ScreenIx) (k : WindowIx) : P (s.leaveWindow scr k) := by
  unfold State.leaveWindow
  simp only
  split
  · exact h.setPlan _ _ _ (h.setPool _ _ hs)
  · exact hs

theorem releaseWindow (scr : ScreenIx) (k : WindowIx) : P (s.releaseWindow scr k) := by
  unfold State.releaseWindow
  simp only
  split
  · exact h.giveScaler hs _ _
  · exact hs

theorem releasePasses (scr : ScreenIx) : P (s.releasePasses scr) :=
  have left : P (windowsInOrder.foldl (State.leaveWindow scr) s) :=
    foldl_keeps (P := P) (fun _ k ht => h.leaveWindow ht scr k) windowsInOrder hs
  foldl_keeps (P := P) (fun _ k ht => h.releaseWindow ht scr k) windowsInOrder left

theorem releaseStage (old : Compositor) (scr : ScreenIx) : P (s.releaseStage old scr) := by
  unfold State.releaseStage
  simp only
  split
  · exact h.releasePasses (h.setPool _ _ hs) scr
  · exact h.releasePasses hs scr

theorem placed (scr : ScreenIx) : P (s.placed scr) := by
  have asked (ks : List WindowIx) (st : State × Bool) (hst : P st.1) : P (ks.foldl (State.requestWindow scr) st).1 := by
    induction ks generalizing st with
    | nil => exact hst
    | cons k ks ih =>
      refine ih _ ?_
      rcases State.requestWindow_cases scr st k with ⟨e, -⟩ | ⟨p, q, e, -⟩
      · rw [e]
        exact hst
      · rw [e]
        exact h.setPlan _ _ _ (h.setPool _ _ hst)
  refine foldl_keeps (P := P) (fun t k ht => ?_) windowsInOrder (asked windowsInOrder (s, false) hs)
  rw [placeWindow_eq_setPlan]
  exact h.setPlan _ _ _ ht

end PoolPlanFree

/-! ## What the slot stage reads -/

/-- In `t` the windows of the wall are shown as in `s`, and the rings have the same newest-ready slots. -/
structure SamePictures (s t : State) : Prop where
  shown : ∀ scr, (t.comps.get scr).shown = (s.comps.get scr).shown
  newest : ∀ i, (t.rings.get i).newest = (s.rings.get i).newest

namespace SamePictures

theorem refl (s : State) : SamePictures s s := ⟨fun _ => rfl, fun _ => rfl⟩

theorem trans {s t u : State} (h : SamePictures s t) (k : SamePictures t u) : SamePictures s u :=
  ⟨fun scr => (k.shown scr).trans (h.shown scr), fun i => (k.newest i).trans (h.newest i)⟩

theorem ofEvents {s t : State} (h : OnlyEvents s t) : SamePictures s t :=
  ⟨fun _ => by rw [h.comps], fun _ => by rw [h.rings]⟩

theorem setComp (s : State) (scr : ScreenIx) {c : Compositor} (hc : c.shown = (s.comps.get scr).shown) :
    SamePictures s (s.setComp scr c) := by
  refine ⟨fun k => ?_, fun _ => rfl⟩
  rw [State.comps_setComp, Table.get_set]
  split
  · next e => rw [hc, e]
  · rfl

theorem setFront (s : State) (i : InputIx) (f : FrontEnd) : SamePictures s (s.setFront i f) := ⟨fun _ => rfl, fun _ => rfl⟩

theorem modRing (s : State) (i : InputIx) {g : Ring → Ring} (hg : ∀ r, (g r).newest = r.newest) :
    SamePictures s (s.modRing i g) := by
  refine ⟨fun _ => rfl, fun j => ?_⟩
  rw [State.rings_modRing, Table.get_set]
  split
  · next e => rw [hg, e]
  · rfl

/-- What every step of a walk over a list keeps, the walk keeps. -/
theorem foldl {α : Type} {f : State → α → State} (h : ∀ s a, SamePictures s (f s a)) (xs : List α) (s : State) :
    SamePictures s (xs.foldl f s) :=
  foldl_keeps (P := SamePictures s) (fun t a ht => ht.trans (h t a)) xs (refl s)

theorem poolPlanFree (s : State) : PoolPlanFree (SamePictures s) where
  setPool _ _ h := h.trans ⟨fun _ => rfl, fun _ => rfl⟩
  setPlan t _ _ h := h.trans (setComp t _ rfl)

theorem requestStage (s : State) (scr : ScreenIx) : SamePictures s (s.requestStage scr) :=
  ((poolPlanFree s).placed (refl s) scr).trans (ofEvents (requestStage_onlyEvents s scr))

theorem giveUpSlot (old : Compositor) (s : State) (k : WindowIx) : SamePictures s (s.giveUpSlot old k) := by
  unfold State.giveUpSlot
  simp only
  split
  · exact modRing s _ fun r => newest_giveUp r _
  · exact refl s

theorem takeSlot (s : State) (scr : ScreenIx) (k : WindowIx) : SamePictures s (s.takeSlot scr k) := by
  unfold State.takeSlot
  simp only
  split
  · refine (setComp s scr ?_).trans (modRing _ _ fun r => newest_take r _)
    rfl
  · exact setComp s scr rfl

theorem slotStage (old : Compositor) (s : State) (scr : ScreenIx) : SamePictures s (s.slotStage old scr) :=
  (foldl (giveUpSlot old) windowsInOrder s).trans (foldl (fun t k => takeSlot t scr k) windowsInOrder _)

/-! ### A frame start publishes nothing (R88, R103, R105) -/

theorem abandonSlot (i : InputIx) (s : State) : SamePictures s (s.abandonSlot i) := by
  unfold State.abandonSlot
  split
  · split
    · exact (modRing s i fun r => newest_abandon r _).trans (setFront _ i _)
    · exact refl s
  · exact refl s

theorem completeInvalid (i : InputIx) (s : State) : SamePictures s (s.completeInvalid i) :=
  (abandonSlot i s).trans (setFront _ i _)

theorem askSlot (i : InputIx) (s : State) (seq : Nat) : SamePictures s (s.askSlot i seq).1 := by
  unfold State.askSlot
  split
  · exact modRing s i fun r => newest_fill r _ seq
  · exact setFront s i _

theorem openFrame (i : InputIx) (s : State) : SamePictures s (s.openFrame i) := by
  have captured : SamePictures s (s.captureStart i).1 := by
    unfold State.captureStart
    simp only
    split
    · exact (setFront s i _).trans (askSlot i _ _)
    · exact refl s
  exact captured.trans (setFront _ i _)

theorem frameStart (i : InputIx) (s : State) : SamePictures s (s.frameStart i) := by
  unfold State.frameStart
  split
  · exact (completeInvalid i s).trans (openFrame i _)
  · exact openFrame i s

theorem startFrame (s : State) (scr : ScreenIx) (leadIn : Bool) : SamePictures s (s.startFrame scr leadIn) := by
  have step (t : State) (i : InputIx) : SamePictures t (if t.loopedFrom scr i then t.frameStart i else t) := by
    split
    · exact frameStart i t
    · exact refl t
  unfold State.startFrame State.startLoopedFrames
  refine SamePictures.trans (setComp s scr ?_) (foldl step (List.finRange 12) _)
  rfl

end SamePictures

/-! ## The slot a window is to read (R65) -/

section SlotFor
variable {s : State} {scr : ScreenIx} {k : WindowIx}

theorem reads_iff (x : Service) : x.reads = true ↔ x ≠ .off ∧ x ≠ .offscreen := by cases x <;> simp [Service.reads]

/-- It follows from source and service of the plan, from what the source is shown as, and from the newest-ready slots. -/
theorem slotFor_congr {t : State} (h : SamePictures s t)
    (hsource : ((t.comps.get scr).plans.get k).source = ((s.comps.get scr).plans.get k).source)
    (hservice : ((t.comps.get scr).plans.get k).service = ((s.comps.get scr).plans.get k).service) :
    t.slotFor scr k = s.slotFor scr k := by
  simp only [State.slotFor, hsource, hservice, h.shown, h.newest]

/-- For a window with a source it is the newest-ready slot, where the window is drawn and shown as picture. -/
theorem slot_slotFor {i : InputIx} (h : ((s.comps.get scr).plans.get k).source = some i) :
    (s.slotFor scr k).map Prod.snd =
      if ((s.comps.get scr).plans.get k).service.reads = true ∧ (s.comps.get scr).shown.get k = .picture then
        (s.rings.get i).newest
      else none := by
  cases hp : (s.comps.get scr).shown.get k with
  | fill _ => simp [State.slotFor, h, hp]
  | picture =>
    by_cases hr : ((s.comps.get scr).plans.get k).service.reads = true
    · simp [State.slotFor, h, hp, hr, Function.comp_def]
    · simp [State.slotFor, h, hp, hr]

end SlotFor

/-! ## The slot stage (R65) -/

section SlotStage
variable (s : State) (scr : ScreenIx)

theorem plans_takeSlot (j k : WindowIx) :
    ((s.takeSlot scr k).comps.get scr).plans.get j =
      if k = j then { (s.comps.get scr).plans.get j with slot := (s.slotFor scr j).map Prod.snd }
      else (s.comps.get scr).plans.get j := by
  cases h : s.slotFor scr k with
  | some x =>
    rw [takeSlot_of_some s h]
    simp only [Table.get_set_self, Table.get_modify]
    split
    · next e => rw [← e, h, Option.map_some]
    · rfl
  | none =>
    rw [takeSlot_of_none s h]
    simp only [Table.get_set_self, Table.get_modify]
    split
    · next e => rw [← e, h, Option.map_none]
    · rfl

/-- What one window takes does not change what a window is to read. -/
theorem slotFor_takeSlot (j k : WindowIx) : (s.takeSlot scr k).slotFor scr j = s.slotFor scr j := by
  refine slotFor_congr (SamePictures.takeSlot s scr k) ?_ ?_
  · rw [plans_takeSlot]
    split
    · rfl
    · rfl
  · exact service_takeSlot s scr j k

theorem plans_takeSlots (ks : List WindowIx) (j : WindowIx) :
    ((ks.foldl (State.takeSlot scr) s).comps.get scr).plans.get j =
      if j ∈ ks then { (s.comps.get scr).plans.get j with slot := (s.slotFor scr j).map Prod.snd }
      else (s.comps.get scr).plans.get j := by
  induction ks generalizing s with
  | nil => rfl
  | cons k ks ih =>
    rw [List.foldl_cons, ih, slotFor_takeSlot, plans_takeSlot]
    by_cases e : k = j
    · subst e
      simp
    · have e' : ¬ j = k := fun h => e h.symm
      simp [e, e']

/-- After the slot stage each plan is as before but for its slot, which is the one its window is to read. -/
theorem plans_slotStage (old : Compositor) (k : WindowIx) :
    ((s.slotStage old scr).comps.get scr).plans.get k =
      { (s.comps.get scr).plans.get k with slot := (s.slotFor scr k).map Prod.snd } := by
  have given : (windowsInOrder.foldl (State.giveUpSlot old) s).comps = s.comps :=
    foldl_keeps (P := fun t => t.comps = s.comps) (fun t k h => (comps_giveUpSlot old t k).trans h) windowsInOrder rfl
  have same : (windowsInOrder.foldl (State.giveUpSlot old) s).slotFor scr k = s.slotFor scr k :=
    slotFor_congr (SamePictures.foldl (SamePictures.giveUpSlot old) windowsInOrder s) (by rw [given]) (by rw [given])
  rw [State.slotStage, plans_takeSlots, if_pos (mem_windowsInOrder k), same, given]

end SlotStage

/-! ## The plan stage -/

/-- The plan stage shows each window's source as it is when the commit begins. -/
theorem shown_planWindows (old : Compositor) (scr : ScreenIx) (ks : List WindowIx) (s : State) (k : WindowIx) (i : InputIx)
    (hi : ((s.comps.get scr).live.window k).source = some i)
    (h : k ∈ ks ∨ (s.comps.get scr).shown.get k = s.sourceShown i) :
    ((ks.foldl (State.planWindow old scr) s).comps.get scr).shown.get k = s.sourceShown i := by
  induction ks generalizing s with
  | nil => exact h.resolve_left List.not_mem_nil
  | cons a ks ih =>
    have same : (State.planWindow old scr s a).sourceShown i = s.sourceShown i := by
      rw [planWindow_frame]
      exact sourceShown_congr rfl rfl
    rw [List.foldl_cons, ih _ (by rw [comp_planWindow]; exact hi) ?_, same]
    rw [same, comp_planWindow]
    by_cases e : a = k
    · subst e
      exact .inr ((Table.get_set_self _ _ _).trans (plannedShown_of_some hi))
    · refine h.imp (fun hm => (List.mem_cons.mp hm).resolve_left fun h => e h.symm) fun hs => ?_
      exact (Table.get_set_of_ne _ _ e).trans hs

/-! ## The commit -/

section Commit
variable (s : State) (scr : ScreenIx)

/-- Copy stage and plan stage leave front ends and rings. -/
theorem planned_inputs : (s.planned scr).fronts = s.fronts ∧ (s.planned scr).rings = s.rings := by
  unfold State.planned State.planStage
  refine foldl_keeps (P := fun t => t.fronts = s.fronts ∧ t.rings = s.rings) (fun t k h => ?_) windowsInOrder ?_
  · rw [planWindow_frame]
    exact h
  · unfold State.copyStage
    split
    · exact ⟨rfl, rfl⟩
    · exact ⟨rfl, rfl⟩

theorem shown_planned {k : WindowIx} {i : InputIx} (h : ((s.nextLive scr).window k).source = some i) :
    ((s.planned scr).comps.get scr).shown.get k = s.sourceShown i := by
  rw [← live_copyStage] at h
  rw [State.planned, State.planStage, shown_planWindows _ scr windowsInOrder _ k i h (.inl (mem_windowsInOrder k))]
  unfold State.copyStage
  split
  · exact sourceShown_congr rfl rfl
  · rfl

/-- The part before the slot stage of a screen that stays ACTIVE. -/
def State.requested : State := ((s.planned scr).releaseStage (s.comps.get scr) scr).requestStage scr

theorem served_eq_slotStage : s.served scr = (s.requested scr).slotStage (s.comps.get scr) scr := rfl

theorem requested_samePictures : SamePictures (s.planned scr) (s.requested scr) :=
  ((SamePictures.poolPlanFree _).releaseStage (.refl _) _ scr).trans (.requestStage _ scr)

variable {s scr} (h : (s.nextLive scr).settings.standby = false)
include h

theorem commit_eq_of_active : s.commit scr = (s.served scr).startFrame scr false := by rw [commit_eq, if_neg (by simp [h])]

theorem requested_commit_samePictures : SamePictures (s.requested scr) (s.commit scr) := by
  rw [commit_eq_of_active h]
  exact (SamePictures.slotStage _ _ scr).trans (.startFrame _ scr false)

/-- A commit leaves every ring its newest-ready slot. -/
theorem newest_commit (i : InputIx) : ((s.commit scr).rings.get i).newest = (s.rings.get i).newest := by
  rw [(requested_commit_samePictures h).newest, (requested_samePictures s scr).newest, (planned_inputs s scr).2]

theorem shown_commit {k : WindowIx} {i : InputIx} (hi : (((s.commit scr).comps.get scr).live.window k).source = some i) :
    ((s.commit scr).comps.get scr).shown.get k = s.sourceShown i := by
  rw [(commit_active s scr h).1] at hi
  rw [(requested_commit_samePictures h).shown, (requested_samePictures s scr).shown, shown_planned s scr hi]

/-- After the commit each window reads the slot it is to read. -/
theorem slot_commit (k : WindowIx) :
    (((s.commit scr).comps.get scr).plans.get k).slot = ((s.commit scr).slotFor scr k).map Prod.snd := by
  have plan : ((s.commit scr).comps.get scr).plans.get k =
      { ((s.requested scr).comps.get scr).plans.get k with slot := ((s.requested scr).slotFor scr k).map Prod.snd } := by
    rw [commit_eq_of_active h, plans_startFrame, served_eq_slotStage, plans_slotStage]
  rw [slotFor_congr (requested_commit_samePictures h) (by rw [plan]) (by rw [plan]), plan]

/-- A slot that is read after the commit is the newest-ready one of the window's source. -/
theorem newest_of_slot_commit {k : WindowIx} {n : SlotIx} (hn : (((s.commit scr).comps.get scr).plans.get k).slot = some n) :
    ∃ i, (((s.commit scr).comps.get scr).plans.get k).source = some i ∧ ((s.commit scr).rings.get i).newest = some n := by
  rw [slot_commit h, Option.map_eq_some_iff] at hn
  obtain ⟨⟨i, m⟩, hslot, rfl⟩ := hn
  obtain ⟨hi, -, -, hnew⟩ := (slotFor_eq_some _ scr k i m).mp hslot
  exact ⟨i, hi, hnew⟩

/-- A drawn window whose source is shown as picture reads its newest-ready slot, and any other none. -/
theorem slot_commit_of_source {k : WindowIx} {i : InputIx}
    (hq : (((s.commit scr).comps.get scr).plans.get k).source = some i)
    (hi : (((s.commit scr).comps.get scr).live.window k).source = some i) :
    (((s.commit scr).comps.get scr).plans.get k).slot =
      if (((s.commit scr).comps.get scr).plans.get k).service ≠ .off ∧
          (((s.commit scr).comps.get scr).plans.get k).service ≠ .offscreen ∧
          ((s.fronts.get i).monitor = .present ∨ (s.fronts.get i).slate = .holding) then (s.rings.get i).newest
      else none := by
  rw [slot_commit h, slot_slotFor hq, shown_commit h hi, newest_commit h]
  simp only [reads_iff, sourceShown_eq_picture]
  cases (s.rings.get i).newest with
  | none => simp
  | some n => simp [and_assoc]

end Commit

/-! ## The boundary -/

/-- Up to the moment of its commit a screen's boundary gives only the inputs looped from it a new ring (R92). -/
theorem ring_atBoundary (s : State) (scr : ScreenIx) {i : InputIx} (h : (s.fronts.get i).loop ≠ some scr) :
    (s.atBoundary scr).rings.get i = s.rings.get i := by
  have loop : ((s.elapse (s.toBoundary scr)).fronts.get i).loop = (s.fronts.get i).loop :=
    State.front_elapse_keeps _ s FrontEnd.loop (fun _ _ _ => rfl) (fun _ => rfl) i
  rw [State.atBoundary, ((State.endLoopedFrames_frame _ scr).2 i fun e => h (loop.symm.trans e)).2, State.rings_elapse]

/-- A ring is its slots and its newest-ready slot. -/
theorem ring_of_newest (x : Ring) {r : Ring} {n : SlotIx} (h : r.newest = some n) :
    r = { x with slots := r.slots, newest := some n } := by rw [← h]

/-- Settles O50: the slot stage window by window, and then the boundary. -/
theorem windowsReadTheNewestReadySlot : Obligations.WindowsReadTheNewestReadySlot := by
  refine ⟨fun _ _ _ => rfl, fun s scr k => ?take, fun s t scr k n hrun ht hn => ?reads, fun s scr k i hrun => ?boundary,
    fun s i => ?source⟩
  case take =>
    intro c q reading reads
    refine ⟨fun i n hi hr hn => ?_, fun hno => ?_⟩
    · obtain ⟨hoff, hscreen, hpicture⟩ := hr
      exact takeSlot_of_some s ((slotFor_eq_some s scr k i n).mpr ⟨hi, hpicture, (reads_iff _).mpr ⟨hoff, hscreen⟩, hn⟩)
    · refine takeSlot_of_none s (Option.eq_none_iff_forall_ne_some.mpr ?_)
      rintro ⟨i, n⟩ hslot
      obtain ⟨hi, hpicture, hread, hn⟩ := (slotFor_eq_some s scr k i n).mp hslot
      obtain ⟨hoff, hscreen⟩ := (reads_iff _).mp hread
      exact hno i n hi ⟨hoff, hscreen, hpicture⟩ hn
  case reads =>
    rw [exec_boundary_active s scr hrun] at ht
    obtain rfl := Host.Outcome.next.inj ht
    cases hlive : ((s.atBoundary scr).nextLive scr).settings.standby with
    | true =>
      obtain ⟨-, -, -, asleep⟩ := commit_standby (s.atBoundary scr) scr hlive
      obtain ⟨unread, -⟩ := asleep k
      cases unread.symm.trans hn
    | false =>
      obtain ⟨i, hi, hnew⟩ := newest_of_slot_commit hlive hn
      have before : ((s.atBoundary scr).rings.get i).newest = some n := (newest_commit hlive i).symm.trans hnew
      refine ⟨i, hi, hnew, ?_, fun hloop => ?_⟩
      · exact ring_of_newest (s.rings.get i) before
      · rw [← ring_atBoundary s scr hloop]
        exact before
  case boundary =>
    refine ⟨_, exec_boundary_active s scr hrun, ?_⟩
    intro q v hactive hq hi
    cases hlive : (v.nextLive scr).settings.standby with
    | true =>
      obtain ⟨-, asleep, -⟩ := commit_standby v scr hlive
      cases asleep.symm.trans hactive
    | false => exact ⟨shown_commit hlive hi, slot_commit_of_source hlive hq hi⟩
  case source =>
    intro picture
    have iff : s.sourceShown i = .picture ↔ picture := sourceShown_eq_picture
    refine ⟨?_, fun n hn hp => planningRaster_of_picture (iff.mpr hp) hn, fun hp => planningRaster_of_fill (iff.not.mpr hp)⟩
    split
    · next hp => exact iff.mpr hp
    · next hp => exact sourceShown_of_ne_picture (iff.not.mpr hp)

end Sys2Proof.Machine
end

section
/-! PROOF. The placements of a window: the picture in its rectangle, the visible rectangle in both, the coarse factor, and what a plan records in each service state (R24 to R32). -/

namespace Sys2Proof.Machine

/-! ## One axis (R24 to R29) -/

/-- The start phase of a clipped axis: its base, and the distance to the first visible pixel in steps (R29). -/
theorem phase_clipAxis (limit : Nat) (p : Int) (size base stp : Nat) :
    ((clipAxis limit p size base stp).phase : Int) = base * 4096 + (max p 0 - p) * stp := by
  have ahead : ((max p 0 - p).toNat : Int) = max p 0 - p := Int.toNat_of_nonneg (by omega)
  simp [clipAxis, ahead]

/-- A visible span is that part of its axis which lies on the canvas. -/
def AxisPlacement.Clipped (limit : Nat) (a : AxisPlacement) : Prop := a.v0 = max a.p 0 ∧ a.v1 = min (a.p + a.size) limit

theorem clipAxis_clipped (limit : Nat) (p : Int) (size base stp : Nat) : (clipAxis limit p size base stp).Clipped limit := ⟨rfl, rfl⟩

section Scaled
variable {limit first crop rect : Nat} {pos : Int}

/-- A reduction beyond 8 fills the rectangle with a central span of the crop (R24). -/
theorem scaledAxis_of_above (h : 32768 < rawStep crop rect) :
    scaledAxis limit first crop pos rect = clipAxis limit pos rect (first + (crop - 8 * rect) / 2) 32768 := if_pos h

/-- An enlargement beyond 8 is centred in the rectangle (R25). -/
theorem scaledAxis_of_below (h : rawStep crop rect < 512) :
    scaledAxis limit first crop pos rect = clipAxis limit (pos + ((rect - 8 * crop) / 2 : Nat)) (8 * crop) first 512 := by
  rw [scaledAxis, if_neg (by omega), if_pos h]

theorem scaledAxis_of_inside (h1 : 512 ≤ rawStep crop rect) (h2 : rawStep crop rect ≤ 32768) :
    scaledAxis limit first crop pos rect = clipAxis limit pos rect first (rawStep crop rect) := by
  rw [scaledAxis, if_neg (by omega), if_neg (by omega)]

/-- An enlargement beyond 8 leaves matte on both sides. -/
theorem lt_of_rawStep_below (h : 0 < rect) (hraw : rawStep crop rect < 512) : 8 * crop < rect := by
  rw [rawStep, Nat.div_lt_iff_lt_mul h] at hraw
  omega

/-- Position, size, visible span and start phase of a scaled axis. -/
theorem scaledAxis_spec :
    (scaledAxis limit first crop pos rect).p =
        (if rawStep crop rect < 512 then pos + ((rect - 8 * crop) / 2 : Nat) else pos) ∧
      (scaledAxis limit first crop pos rect).size = (if rawStep crop rect < 512 then 8 * crop else rect) ∧
      (scaledAxis limit first crop pos rect).Clipped limit ∧
      ((scaledAxis limit first crop pos rect).phase : Int) =
        (if 32768 < rawStep crop rect then first + (crop - 8 * rect) / 2 else first : Nat) * 4096 +
          ((scaledAxis limit first crop pos rect).v0 - (scaledAxis limit first crop pos rect).p) * step1 crop rect := by
  rcases lt_or_ge 32768 (rawStep crop rect) with above | notAbove
  · rw [scaledAxis_of_above above, step1_of_above above, if_pos above, if_neg (by omega), if_neg (by omega)]
    exact ⟨rfl, rfl, clipAxis_clipped .., phase_clipAxis ..⟩
  rw [if_neg (not_lt.mpr notAbove)]
  rcases lt_or_ge (rawStep crop rect) 512 with below | inside
  · rw [scaledAxis_of_below below, step1_of_below below, if_pos below, if_pos below]
    exact ⟨rfl, rfl, clipAxis_clipped .., phase_clipAxis ..⟩
  · rw [scaledAxis_of_inside inside notAbove, step1_of_inside inside notAbove, if_neg (not_lt.mpr inside),
      if_neg (not_lt.mpr inside)]
    exact ⟨rfl, rfl, clipAxis_clipped .., phase_clipAxis ..⟩

/-- The picture of a scaled axis lies inside the rectangle. -/
theorem scaledAxis_inside (h : 0 < rect) :
    pos ≤ (scaledAxis limit first crop pos rect).p ∧
      (scaledAxis limit first crop pos rect).p + (scaledAxis limit first crop pos rect).size ≤ pos + rect := by
  obtain ⟨hp, hsize, -, -⟩ := scaledAxis_spec (limit := limit) (first := first) (crop := crop) (pos := pos) (rect := rect)
  rw [hp, hsize]
  split
  · next below =>
    have := lt_of_rawStep_below h below
    omega
  · omega

end Scaled

/-! ## Both axes (R28) -/

theorem empty_iff (q : Placement) : q.empty = true ↔ q.x.v1 ≤ q.x.v0 ∨ q.y.v1 ≤ q.y.v0 := by simp [Placement.empty]

theorem visible_of_empty {q : Placement} (h : q.empty = true) : q.visible = ⟨q.x.v0, q.y.v0, 0, 0⟩ := if_pos h

theorem visible_of_not_empty {q : Placement} (h : q.empty = false) :
    q.visible = ⟨q.x.v0, q.y.v0, (q.x.v1 - q.x.v0).toNat, (q.y.v1 - q.y.v0).toNat⟩ := if_neg (by simp [h])

/-- A span with a pixel lies on the canvas and in the picture. -/
theorem AxisPlacement.Clipped.inside {limit : Nat} {a : AxisPlacement} (h : a.Clipped limit) (hv : a.v0 < a.v1) :
    0 ≤ a.v0 ∧ a.v0 + (a.v1 - a.v0).toNat ≤ limit ∧ a.p ≤ a.v0 ∧ a.v0 + (a.v1 - a.v0).toNat ≤ a.p + a.size ∧
      0 < (a.v1 - a.v0).toNat := by
  obtain ⟨h0, h1⟩ := h
  omega

/-! ## The coarse placement (R31) -/

/-- The coarse factor is the least of 1, 2, 4 and 8 that fits, and 8 where none does. -/
theorem coarseFactor_spec (wc hc w h : Nat) :
    (coarseFactor wc hc w h = 1 ∨ coarseFactor wc hc w h = 2 ∨ coarseFactor wc hc w h = 4 ∨ coarseFactor wc hc w h = 8) ∧
      (coarseFactor wc hc w h ≠ 8 → wc / coarseFactor wc hc w h ≤ w ∧ hc / coarseFactor wc hc w h ≤ h) ∧
      ∀ e, e = 1 ∨ e = 2 ∨ e = 4 ∨ e = 8 → e < coarseFactor wc hc w h → ¬ (wc / e ≤ w ∧ hc / e ≤ h) := by
  unfold coarseFactor
  split_ifs with h1 h2 h4
  · refine ⟨by simp, fun _ => by simpa using h1, ?_⟩
    rintro e (rfl | rfl | rfl | rfl) <;> omega
  · refine ⟨by simp, fun _ => h2, ?_⟩
    rintro e (rfl | rfl | rfl | rfl) <;> omega
  · refine ⟨by simp, fun _ => h4, ?_⟩
    rintro e (rfl | rfl | rfl | rfl) <;> omega
  · refine ⟨by simp, fun h => absurd rfl h, ?_⟩
    rintro e (rfl | rfl | rfl | rfl) <;> omega

/-! ## The need and the recorded placement (R28, R30, R32) -/

theorem exactStep_iff (n : Nat) : exactStep n = true ↔ n = 4096 ∨ n = 8192 ∨ n = 16384 ∨ n = 32768 := by
  simp [exactStep, or_assoc]

theorem need_eq (q : Plan) (r : Rect) :
    q.need r =
      if q.source = none then .off
      else if (q.scaledPlace r).empty = true then .offscreen
      else if exactStep q.sh = true ∧ exactStep q.sv = true then .exact
      else .scaler := by
  unfold Plan.need
  cases q.source with
  | none => rfl
  | some i => simp

section Place
variable {q : Plan} (r : Rect)

theorem place_of_off (h : q.service = .off) : q.place r = { Plan.off with slot := q.slot, scaler := q.scaler } := by
  simp [Plan.place, h]

theorem place_of_offscreen (h : q.service = .offscreen) : q.place r = q.placeOffscreen r := by simp [Plan.place, h]

theorem place_of_scaled (h : q.service = .exact ∨ q.service = .scaled) : q.place r = q.placeScaled r := by
  rcases h with h | h
  · simp [Plan.place, h]
  · simp [Plan.place, h]

theorem place_of_coarse (h : q.service = .waiting ∨ q.service = .granted ∨ q.service = .economy) :
    q.place r = q.placeCoarse r := by
  rcases h with h | h | h
  · simp [Plan.place, h]
  · simp [Plan.place, h]
  · simp [Plan.place, h]

end Place

/-- Settles O52: the scaled placement, its axes, the coarse placement, and what a plan records. -/
theorem visibleInsidePictureInsideRectangle : Obligations.VisibleInsidePictureInsideRectangle := by
  refine ⟨fun cl wc ct hc r hw hh => ?inside, fun limit first crop rect pos _ => ?scaled,
    fun limit first crop rect d pos _ _ => ⟨rfl, rfl, rfl, rfl, phase_clipAxis ..⟩, coarseFactor_spec, fun q r => ?plan⟩
  case inside =>
    intro q
    obtain ⟨left, right⟩ := scaledAxis_inside (limit := 1920) (first := cl) (crop := wc) (pos := r.x) hw
    obtain ⟨top, bottom⟩ := scaledAxis_inside (limit := 1080) (first := ct) (crop := hc) (pos := r.y) hh
    obtain ⟨-, -, clipX, -⟩ := scaledAxis_spec (limit := 1920) (first := cl) (crop := wc) (pos := r.x) (rect := r.w)
    obtain ⟨-, -, clipY, -⟩ := scaledAxis_spec (limit := 1080) (first := ct) (crop := hc) (pos := r.y) (rect := r.h)
    refine ⟨left, right, top, bottom, fun h => ?_, fun h => ?_⟩
    · rw [visible_of_empty h]
      exact ⟨rfl, rfl⟩
    · obtain ⟨hx, hy⟩ := not_or.mp ((empty_iff q).not.mp (by simp [h]))
      obtain ⟨x0, x1, px, px1, wide⟩ := clipX.inside (not_le.mp hx)
      obtain ⟨y0, y1, py, py1, high⟩ := clipY.inside (not_le.mp hy)
      rw [visible_of_not_empty h]
      exact ⟨x0, x1, y0, y1, px, py, px1, py1, wide, high⟩
  case scaled =>
    intro raw a base
    obtain ⟨hp, hsize, ⟨hv0, hv1⟩, hphase⟩ :=
      scaledAxis_spec (limit := limit) (first := first) (crop := crop) (pos := pos) (rect := rect)
    exact ⟨hp, hsize, hv0, hv1, hphase⟩
  case plan =>
    intro scaled d coarse exact
    refine ⟨?need, empty_iff scaled, place_of_off r, fun h => ⟨_, _, place_of_offscreen r h⟩, place_of_scaled r,
      place_of_coarse r⟩
    case need =>
      rw [need_eq]
      simp only [exactStep_iff]
      rfl

end Sys2Proof.Machine
end

section
/-! PROOF. The output picture: blends, interpolation and averages, the layers of a screen, its test patterns, and the pixels of a window (R33 to R37, R67 to R76, R78). -/

namespace Sys2Proof.Machine

/-! ## Rounded means (R35, R36, R70) -/

section Means
variable {lo hi : Nat}

/-- A rounded mean of weights `w` and `n - w` stays between any bounds of its two parts. -/
theorem weightedMean_between {n w a b : Nat} (hn : 0 < n) (hw : w ≤ n) (ha : lo ≤ a ∧ a ≤ hi) (hb : lo ≤ b ∧ b ≤ hi) :
    lo ≤ (w * a + (n - w) * b + n / 2) / n ∧ (w * a + (n - w) * b + n / 2) / n ≤ hi := by
  have parts (x : Nat) : w * x + (n - w) * x = n * x := by rw [← Nat.add_mul, Nat.add_sub_cancel' hw]
  have below : n * lo ≤ w * a + (n - w) * b :=
    parts lo ▸ Nat.add_le_add (Nat.mul_le_mul_left w ha.1) (Nat.mul_le_mul_left (n - w) hb.1)
  have above : w * a + (n - w) * b ≤ n * hi :=
    parts hi ▸ Nat.add_le_add (Nat.mul_le_mul_left w ha.2) (Nat.mul_le_mul_left (n - w) hb.2)
  constructor
  · rw [Nat.le_div_iff_mul_le hn, Nat.mul_comm lo]
    omega
  · rw [Nat.div_le_iff_le_mul hn, Nat.mul_comm hi]
    omega

theorem blend_between {opacity top below : Nat} (h : opacity ≤ 256) (ht : lo ≤ top ∧ top ≤ hi) (hb : lo ≤ below ∧ below ≤ hi) :
    lo ≤ blend opacity top below ∧ blend opacity top below ≤ hi := weightedMean_between (by decide) h ht hb

theorem blend_opaque (top below : Nat) : blend 256 top below = top := by
  unfold blend
  omega

theorem blend_transparent (top below : Nat) : blend 0 top below = below := by
  unfold blend
  omega

theorem blend_self {opacity : Nat} (h : opacity ≤ 256) (top : Nat) : blend opacity top top = top := by
  obtain ⟨least, most⟩ := blend_between h ⟨le_refl top, le_refl top⟩ ⟨le_refl top, le_refl top⟩
  exact le_antisymm most least

theorem mixPair_between {first second weight : Nat} (h : weight ≤ 16) (h1 : lo ≤ first ∧ first ≤ hi)
    (h2 : lo ≤ second ∧ second ≤ hi) : lo ≤ mixPair first second weight ∧ mixPair first second weight ≤ hi := by
  have mean : mixPair first second weight = (weight * second + (16 - weight) * first + 16 / 2) / 16 := by
    rw [mixPair, Nat.mul_comm first, Nat.mul_comm second, Nat.add_comm (_ * first)]
  rw [mean]
  exact weightedMean_between (by decide) h h2 h1

theorem average_between {xs : List Nat} (hne : xs ≠ []) (h : ∀ x ∈ xs, lo ≤ x ∧ x ≤ hi) :
    lo ≤ average xs ∧ average xs ≤ hi := by
  have pos : 0 < xs.length := List.length_pos_iff.mpr hne
  have below : xs.length * lo ≤ xs.sum := by simpa using List.card_nsmul_le_sum xs lo fun x hx => (h x hx).1
  have above : xs.sum ≤ xs.length * hi := by simpa using List.sum_le_card_nsmul xs hi fun x hx => (h x hx).2
  constructor
  · rw [average, Nat.le_div_iff_mul_le pos, Nat.mul_comm lo]
    omega
  · rw [average, Nat.div_le_iff_le_mul pos, Nat.mul_comm hi]
    omega

end Means

section Sampling
variable (x : Slot) (q : Plan) (comp : Colour → Component)

theorem length_blockSamples (c r dh dv : Nat) : (blockSamples x q comp c r dh dv).length = dh * dv := by
  simp [blockSamples, List.length_flatMap, Nat.mul_comm]

theorem mem_blockSamples {c r dh dv n : Nat} :
    n ∈ blockSamples x q comp c r dh dv ↔ ∃ j < dv, ∃ i < dh, sampleAt x q comp (c + i) (r + j) = n := by
  simp [blockSamples]

theorem boxAverage_eq (px py dh dv : Nat) :
    boxAverage x q comp px py dh dv =
      ((blockSamples x q comp (px / 4096) (py / 4096) dh dv).sum + dh * dv / 2) / (dh * dv) := by
  rw [boxAverage, average, length_blockSamples]

variable {lo hi px py : Nat}

/-- Two passes of the interpolation, each between its two components (R35). -/
theorem interpolate_between
    (h00 : lo ≤ sampleAt x q comp (px / 4096) (py / 4096) ∧ sampleAt x q comp (px / 4096) (py / 4096) ≤ hi)
    (h10 : lo ≤ sampleAt x q comp (px / 4096 + 1) (py / 4096) ∧ sampleAt x q comp (px / 4096 + 1) (py / 4096) ≤ hi)
    (h01 : lo ≤ sampleAt x q comp (px / 4096) (py / 4096 + 1) ∧ sampleAt x q comp (px / 4096) (py / 4096 + 1) ≤ hi)
    (h11 : lo ≤ sampleAt x q comp (px / 4096 + 1) (py / 4096 + 1) ∧ sampleAt x q comp (px / 4096 + 1) (py / 4096 + 1) ≤ hi) :
    lo ≤ interpolate x q comp px py ∧ interpolate x q comp px py ≤ hi := by
  have weight (n : Nat) : n % 4096 / 256 ≤ 16 := by omega
  exact mixPair_between (weight py) (mixPair_between (weight px) h00 h10) (mixPair_between (weight px) h01 h11)

theorem boxAverage_between {dh dv : Nat} (hh : 0 < dh) (hv : 0 < dv)
    (h : ∀ i j, i < dh → j < dv →
      lo ≤ sampleAt x q comp (px / 4096 + i) (py / 4096 + j) ∧ sampleAt x q comp (px / 4096 + i) (py / 4096 + j) ≤ hi) :
    lo ≤ boxAverage x q comp px py dh dv ∧ boxAverage x q comp px py dh dv ≤ hi := by
  refine average_between ?_ fun n hn => ?_
  · rw [← List.length_pos_iff, length_blockSamples]
    exact Nat.mul_pos hh hv
  · obtain ⟨j, hj, i, hi, rfl⟩ := (mem_blockSamples x q comp).mp hn
    exact h i j hi hj

end Sampling

/-! ## A window's pixel (R69) -/

theorem has_iff (a : Rect) (c r : Int) : a.has c r = true ↔ a.x ≤ c ∧ c < a.x + a.w ∧ a.y ≤ r ∧ r < a.y + a.h := by
  simp [Rect.has, and_assoc]

theorem drawn_iff (x : Service) : x.drawn = true ↔ x ≠ .off ∧ x ≠ .offscreen := by cases x <;> simp [Service.drawn]

/-- SCALED interpolates, and EXACT and the coarse services average (R34 to R36). -/
theorem pictureComponent_eq (x : Slot) (q : Plan) (comp : Colour → Component) (c r : Int) :
    let cols := fun stp : Nat => q.ph0 + (c - q.v.x).toNat * stp
    let rows := fun stp : Nat => q.pv0 + (r - q.v.y).toNat * stp
    pictureComponent x q comp c r =
      if q.service = .scaled then interpolate x q comp (cols q.sh) (rows q.sv)
      else if q.service = .exact then boxAverage x q comp (cols q.sh) (rows q.sv) (q.sh / 4096) (q.sv / 4096)
      else if q.service = .waiting ∨ q.service = .granted ∨ q.service = .economy then
        boxAverage x q comp (cols (q.d * 4096)) (rows (q.d * 4096)) q.d q.d
      else 0 := by
  intro cols rows
  unfold pictureComponent
  cases q.service <;> rfl

section WindowPixel
variable {s : State} {q : Plan} {matte : Colour} {c r : Int}

theorem windowPixel_outside (h : q.v.has c r ≠ true) (shown : Shown) : s.windowPixel q shown matte c r = matte := if_neg h

theorem windowPixel_fill (h : q.v.has c r = true) (colour : Colour) : s.windowPixel q (.fill colour) matte c r = colour := if_pos h

theorem windowPixel_picture (h : q.v.has c r = true) {i : InputIx} {n : SlotIx} (hi : q.source = some i) (hn : q.slot = some n) :
    s.windowPixel q .picture matte c r = picturePixel ((s.rings.get i).slots.get n) q c r := by
  simp [State.windowPixel, State.slotOf, h, hi, hn]

end WindowPixel

/-! ## Layers (R68, R70, R71) -/

section Layers
variable {s : State} {k : Compositor} {j : InsetIx} {c r : Int} {below : Colour}

theorem mainLayer_of_drawn (h : (k.plans.get 0).service.drawn = true) :
    s.mainLayer k c r below = s.windowPixel (k.plans.get 0) (k.shown.get 0) k.live.settings.background c r := if_pos h

theorem mainLayer_of_not_drawn (h : (k.plans.get 0).service.drawn ≠ true) : s.mainLayer k c r below = below := if_neg h

theorem onBorder_iff {a : Rect} (h : a.has c r = true) (width : Nat) :
    onBorder a width c r = true ↔
      c < a.x + width ∨ a.x + a.w - width ≤ c ∨ r < a.y + width ∨ a.y + a.h - width ≤ r := by
  simp [onBorder, h, or_assoc]

theorem insetLayer_outside
    (h : (k.plans.get ⟨j.val + 1, by omega⟩).service.drawn ≠ true ∨ (k.live.insets.get j).rect.has c r ≠ true) :
    s.insetLayer k j c r below = below :=
  if_neg fun e => h.elim (fun hd => hd (Bool.and_eq_true_iff.mp e).1) fun hr => hr (Bool.and_eq_true_iff.mp e).2

variable (hd : (k.plans.get ⟨j.val + 1, by omega⟩).service.drawn = true) (hr : (k.live.insets.get j).rect.has c r = true)
include hd hr

theorem insetLayer_border (h : onBorder (k.live.insets.get j).rect (k.live.insets.get j).border c r = true) :
    s.insetLayer k j c r below = (k.live.insets.get j).colour :=
  (if_pos (Bool.and_eq_true_iff.mpr ⟨hd, hr⟩)).trans (if_pos h)

theorem insetLayer_inside (h : onBorder (k.live.insets.get j).rect (k.live.insets.get j).border c r ≠ true) :
    s.insetLayer k j c r below =
      blendPixel (k.live.insets.get j).opacity
        (s.windowPixel (k.plans.get ⟨j.val + 1, by omega⟩) (k.shown.get ⟨j.val + 1, by omega⟩) (k.live.insets.get j).colour c r)
        below :=
  (if_pos (Bool.and_eq_true_iff.mpr ⟨hd, hr⟩)).trans (if_neg h)

end Layers

/-! ## The ID card (R76) -/

/-- The table of the segments a digit lights, read off segment by segment. -/
theorem mem_litSegments {digit : Nat} (h : digit < 10) (n : Nat) :
    n ∈ litSegments.getD digit [] ↔
      n = 0 ∧ (digitSegments digit).top = true ∨ n = 1 ∧ (digitSegments digit).upperLeft = true ∨
        n = 2 ∧ (digitSegments digit).upperRight = true ∨ n = 3 ∧ (digitSegments digit).middle = true ∨
        n = 4 ∧ (digitSegments digit).lowerLeft = true ∨ n = 5 ∧ (digitSegments digit).lowerRight = true ∨
        n = 6 ∧ (digitSegments digit).bottom = true := by
  interval_cases digit <;> simp [litSegments, digitSegments]

theorem digitPixel_iff {digit : Nat} (h : digit < 10) (x c r : Nat) : digitPixel digit x c r = true ↔ digitLit digit x c r := by
  simp only [digitLit, mem_litSegments h, or_and_right, exists_or, and_assoc, exists_eq_left]
  simp [digitPixel, segmentAreas, and_assoc, or_assoc]

/-- The number of a screen, 1 to 16, in one or two digits. -/
theorem idCardPixel_iff {number : Nat} (h : number < 20) (c r : Nat) : idCardPixel number c r = true ↔ idCardLit number c r := by
  unfold idCardPixel idCardLit
  by_cases one : number < 10
  · have tens : ¬ 10 ≤ number := by omega
    simp [one, tens, digitPixel_iff, Nat.le_of_lt_succ one]
  · have units : number - 10 < 10 := by omega
    have tens : 10 ≤ number := by omega
    have two : ¬ number ≤ 9 := by omega
    simp [one, two, tens, digitPixel_iff, units]

/-! ## The output (R60, R67, R74, R78) -/

section Output
variable {s : State} {scr : ScreenIx}

theorem pixel_of_starting {left : Nat} (h : (s.comps.get scr).timing = .starting left) (c r : Nat) : s.pixel scr c r = none := by
  simp [State.pixel, h]

theorem pixel_of_stopped (h : (s.comps.get scr).timing = .stopped) (c r : Nat) : s.pixel scr c r = none := by
  simp [State.pixel, h]

theorem pixel_of_leadIn {period left : Nat} (h : (s.comps.get scr).timing = .running period left true) (c r : Nat) :
    s.pixel scr c r = some (s.comps.get scr).live.settings.background := by
  simp [State.pixel, h]

theorem pixel_of_frame {period left : Nat} (h : (s.comps.get scr).timing = .running period left false) (c r : Nat) :
    s.pixel scr c r = some (s.composed scr c r) := by
  simp [State.pixel, h]

/-- The layers one over the other, with the pattern in place of them all while one is on. -/
theorem composed_eq (s : State) (scr : ScreenIx) (c r : Nat) :
    let k := s.comps.get scr
    let back := k.live.settings.background
    s.composed scr c r =
      patternPixel k.live.settings.pattern (scr.val + 1) back c r
        (s.insetLayer k 2 c r (s.insetLayer k 1 c r (s.insetLayer k 0 c r (s.mainLayer k c r back)))) := rfl

end Output

/-- Settles O53: blends and samples, the output, the layers, and the pixels of a window. -/
theorem pixelsStayBetweenTheirSources : Obligations.PixelsStayBetweenTheirSources := by
  refine ⟨fun opacity top below h => ?blends, fun x q comp lo hi px py => ⟨interpolate_between x q comp, fun dh dv hh hv =>
      boxAverage_between x q comp hh hv⟩, fun s scr c r => ?output, by decide, fun s k j c r below => ?layers,
    fun s q matte c r => ?window, fun x q pick px py dh dv c r => ⟨rfl, rfl, boxAverage_eq x q pick px py dh dv⟩⟩
  case blends =>
    obtain ⟨least, most⟩ := blend_between h ⟨min_le_left top below, le_max_left top below⟩
      ⟨min_le_right top below, le_max_right top below⟩
    exact ⟨blend_opaque top below, blend_transparent top below, blend_self h top, least, most⟩
  case output =>
    intro k back
    refine ⟨fun left h => pixel_of_starting h c r, fun h => pixel_of_stopped h c r, fun period left h => pixel_of_leadIn h c r,
      fun period left h => ?frame⟩
    case frame =>
      rw [pixel_of_frame h, composed_eq]
      refine ⟨fun hp => ?_, fun hp => ?_, fun hp => ?_, fun hp => ?_, fun hp => ⟨fun lit => ?_, fun dark => ?_⟩⟩
      · rw [hp]
        rfl
      · rw [hp]
        rfl
      · rw [hp]
        exact ⟨BitVec.ofNat 10 ((c + 4 * r) % 1024), by simp, rfl⟩
      · rw [hp]
        rfl
      · rw [hp]
        exact congrArg some (if_pos ((idCardPixel_iff (by omega) c r).mpr lit))
      · rw [hp]
        exact congrArg some (if_neg ((idCardPixel_iff (by omega) c r).not.mpr dark))
  case layers =>
    intro drawn main q req inside border top mix
    have inRect : req.rect.has c r = true ↔ inside := has_iff req.rect c r
    refine ⟨fun h => mainLayer_of_drawn ((drawn_iff _).mpr h), fun h => mainLayer_of_not_drawn ((drawn_iff _).not.mpr h),
      fun h => insetLayer_outside (h.imp (drawn_iff _).not.mpr inRect.not.mpr), fun hd hin hb => ?_, fun hd hin hb => ?_⟩
    · have hhas := inRect.mpr hin
      exact insetLayer_border ((drawn_iff _).mpr hd) hhas ((onBorder_iff hhas req.border).mpr hb)
    · have hhas := inRect.mpr hin
      exact insetLayer_inside ((drawn_iff _).mpr hd) hhas ((onBorder_iff hhas req.border).not.mpr hb)
  case window =>
    intro visible
    have inRect : q.v.has c r = true ↔ visible := has_iff q.v c r
    refine ⟨fun shown h => windowPixel_outside (inRect.not.mpr h) shown, fun colour h => windowPixel_fill (inRect.mpr h) colour,
      fun i n h hi hn => ?_⟩
    intro x cols rows comp
    have component (pick : Colour → Component) : BitVec.ofNat 10 (pictureComponent x q pick c r) = comp pick :=
      congrArg (BitVec.ofNat 10) (pictureComponent_eq x q pick c r)
    rw [windowPixel_picture (inRect.mpr h) hi hn, ← component, ← component, ← component]
    rfl

end Sys2Proof.Machine
end

section
/-! PROOF. The Scaler Pool, operation by operation: who leaves the list, what a grant writes, the four cases of a grant opportunity, and what the release and standby stages do with one window (R40, R42, R44, R47, R49, R50, R53). -/

namespace Sys2Proof.Machine

/-! ## The pool and its lists -/

section Lists
variable (p : Pool) (n : ScalerIx) (w : WallWindow) (x : Scaler)

@[simp] theorem scalers_leave : (p.leave w).scalers = p.scalers := rfl
@[simp] theorem waiting_leave : (p.leave w).waiting = p.waiting.filter (· ≠ w) := rfl
@[simp] theorem feature_leave : (p.leave w).feature = p.feature.filter (· ≠ w) := rfl
@[simp] theorem ambient_leave : (p.leave w).ambient = p.ambient.filter (· ≠ w) := rfl
@[simp] theorem scalers_setScaler : (p.setScaler n x).scalers = p.scalers.set n x := rfl
@[simp] theorem waiting_setScaler : (p.setScaler n x).waiting = p.waiting := rfl
@[simp] theorem feature_setScaler : (p.setScaler n x).feature = p.feature := rfl
@[simp] theorem ambient_setScaler : (p.setScaler n x).ambient = p.ambient := rfl
@[simp] theorem scalers_join : (p.join w).scalers = p.scalers := rfl
@[simp] theorem waiting_join : (p.join w).waiting = p.waiting ++ [w] := rfl
@[simp] theorem feature_join : (p.join w).feature = p.feature := rfl
@[simp] theorem ambient_join : (p.join w).ambient = p.ambient := rfl

/-- The pool whose list and snapshots hold the windows of a set alone. -/
def Pool.keep (f : WallWindow → Bool) : Pool :=
  { p with waiting := p.waiting.filter f, feature := p.feature.filter f, ambient := p.ambient.filter f }

theorem leave_eq_keep : p.leave w = p.keep (· ≠ w) := rfl

theorem keep_keep (f g : WallWindow → Bool) : (p.keep f).keep g = p.keep fun v => g v && f v := by
  simp [Pool.keep, List.filter_filter]

end Lists

@[simp] theorem plan_setPool (s : State) (p : Pool) (w : WallWindow) : (s.setPool p).plan w = s.plan w := rfl

@[simp] theorem classOf_setPool (s : State) (p : Pool) (w : WallWindow) : (s.setPool p).classOf w = s.classOf w := rfl

theorem plan_setPlan (s : State) (w v : WallWindow) (q : Plan) : (s.setPlan w q).plan v = if v = w then q else s.plan v := by
  split
  · next h => rw [h, State.plan_setPlan_self]
  · next h => exact State.plan_setPlan_of_ne s q fun e => h e.symm

theorem OnlyPlans.classOf {s t : State} (h : OnlyPlans s t) (w : WallWindow) : t.classOf w = s.classOf w := by
  simp only [State.classOf, h.live]

@[simp] theorem classOf_setPlan (s : State) (v : WallWindow) (q : Plan) (w : WallWindow) :
    (s.setPlan v q).classOf w = s.classOf w := (OnlyPlans.setPlan s v q).classOf w

/-- The windows of a screen are its four. -/
theorem screenOf_eq_iff (scr : ScreenIx) (w : WallWindow) :
    screenOf w = scr ↔ w = wallWindow scr 0 ∨ w = wallWindow scr 1 ∨ w = wallWindow scr 2 ∨ w = wallWindow scr 3 := by
  constructor
  · rintro rfl
    have number (k : WindowIx) : k = 0 ∨ k = 1 ∨ k = 2 ∨ k = 3 := by
      revert k
      decide
    rcases number (windowOf w) with h | h | h | h <;> simp [← h]
  · rintro (rfl | rfl | rfl | rfl) <;> exact State.screenOf_wallWindow _ _

/-- When a screen enters STANDBY, its windows leave the list and the snapshots, and no others (R53). -/
theorem leaveAll_eq (s : State) (scr : ScreenIx) : s.leaveAll scr = s.setPool (s.pool.keep fun w => screenOf w ≠ scr) := by
  have four : (fun w => decide (screenOf w ≠ scr)) = fun w =>
      decide (w ≠ wallWindow scr 3) && (decide (w ≠ wallWindow scr 2) && (decide (w ≠ wallWindow scr 1) &&
        decide (w ≠ wallWindow scr 0))) := by
    funext w
    rw [Bool.eq_iff_iff]
    simp only [decide_eq_true_eq, Bool.and_eq_true, Ne, screenOf_eq_iff]
    tauto
  rw [four, ← keep_keep, ← keep_keep, ← keep_keep]
  rfl

/-- A change of class takes the windows of its screen out of both snapshots, and no others (R52). -/
theorem dropFromSnapshots_eq (s : State) (scr : ScreenIx) :
    s.dropFromSnapshots scr =
      s.setPool { s.pool with
        feature := s.pool.feature.filter fun w => screenOf w ≠ scr
        ambient := s.pool.ambient.filter fun w => screenOf w ≠ scr } := by
  have same : (fun w => screenOf w != scr) = fun w => decide (screenOf w ≠ scr) := by
    funext w
    rw [Bool.eq_iff_iff]
    simp
  rw [State.dropFromSnapshots, same]

/-! ## Captures and grants (R42, R47) -/

section Grant
variable (s : State) (n : ScalerIx) (w : WallWindow)

/-- Both snapshots captured from one list (R44). -/
def State.newRound : State := s.captureFeature.captureAmbient

theorem pool_newRound :
    s.newRound.pool = { s.pool with feature := s.capture .feature, ambient := s.capture .ambient } := rfl

@[simp] theorem pool_grant : (s.grant n w).pool = (s.pool.leave w).setScaler n (.granted w) := rfl

@[simp] theorem plan_grant_self : (s.grant n w).plan w = { s.plan w with service := .granted, scaler := some n } :=
  State.plan_setPlan_self _ _ _

theorem plan_grant_of_ne {v : WallWindow} (h : v ≠ w) : (s.grant n w).plan v = s.plan v :=
  State.plan_setPlan_of_ne _ _ h.symm

/-- What is captured after a grant is captured from the list that the window has left. -/
theorem capture_grant (c : ScreenClass) :
    (s.grant n w).capture c = (s.pool.waiting.filter (· ≠ w)).filter fun v => s.classOf v == c := by
  simp only [State.capture, (State.grant_onlyPlans s n w).classOf]
  rfl

end Grant

/-! ## A grant opportunity (R44) -/

section Offer
variable {s : State} (n : ScalerIx) {w : WallWindow} {rest : List WallWindow}

theorem offer_of_feature (h : s.pool.feature = w :: rest) : s.offer n = s.grant n w := by
  simp only [State.offer, h]

theorem offer_of_ambient (hf : s.pool.feature = []) (h : s.pool.ambient = w :: rest) :
    s.offer n = (s.grant n w).captureFeature := by
  simp only [State.offer, hf, h]

/-- With both snapshots empty they are captured, and the scaler goes by what they then hold. -/
theorem offer_of_empty (hf : s.pool.feature = []) (ha : s.pool.ambient = []) :
    s.offer n =
      match s.capture .feature, s.capture .ambient with
      | w :: _, _ => s.newRound.grant n w
      | [], w :: _ => s.newRound.grant n w
      | [], [] => s.freeScaler n := by
  have captured := pool_newRound s
  unfold State.newRound at captured ⊢
  simp only [State.offer, hf, ha, captured]
  cases s.capture .feature with
  | cons _ _ => rfl
  | nil => cases s.capture .ambient <;> rfl

/-- A window that waits is granted the scaler, at once or at the head of a new round, or no window of a FEATURE or AMBIENT screen waits and the scaler is FREE. -/
theorem offer_cases (hf : s.pool.feature ⊆ s.pool.waiting) (ha : s.pool.ambient ⊆ s.pool.waiting) :
    (∃ w ∈ s.pool.waiting, s.offer n = s.grant n w ∨ s.offer n = (s.grant n w).captureFeature ∨
        s.offer n = s.newRound.grant n w) ∨
      (s.capture .feature = [] ∧ s.capture .ambient = [] ∧ s.offer n = s.freeScaler n) := by
  have waits {c : ScreenClass} {w : WallWindow} {rest : List WallWindow} (h : s.capture c = w :: rest) : w ∈ s.pool.waiting :=
    List.mem_of_mem_filter (h ▸ List.mem_cons_self : w ∈ s.capture c)
  cases hfeature : s.pool.feature with
  | cons w rest => exact .inl ⟨w, hf (hfeature ▸ List.mem_cons_self), .inl (offer_of_feature n hfeature)⟩
  | nil =>
    cases hambient : s.pool.ambient with
    | cons w rest => exact .inl ⟨w, ha (hambient ▸ List.mem_cons_self), .inr (.inl (offer_of_ambient n hfeature hambient))⟩
    | nil =>
      rw [offer_of_empty n hfeature hambient]
      cases hcf : s.capture .feature with
      | cons w rest => exact .inl ⟨w, waits hcf, .inr (.inr rfl)⟩
      | nil =>
        cases hca : s.capture .ambient with
        | cons w rest => exact .inl ⟨w, waits hca, .inr (.inr rfl)⟩
        | nil => exact .inr ⟨rfl, rfl, rfl⟩

end Offer

/-! ## The release stage and the standby stage, window by window (R49, R50, R53) -/

section Windows
variable {s : State} {scr : ScreenIx} {k : WindowIx}

/-- The window needs no scaler, or its screen is ECONOMY: it may neither wait nor hold a scaler (R49, R50). -/
def State.dismissed (s : State) (scr : ScreenIx) (k : WindowIx) : Prop := s.needOf scr k ≠ .scaler ∨ s.economy scr = true

theorem leaveWindow_of_leaves (hq : (s.plan (wallWindow scr k)).service = .waiting) (hd : s.dismissed scr k) :
    s.leaveWindow scr k =
      (s.setPool (s.pool.leave (wallWindow scr k))).setPlan (wallWindow scr k)
        { s.plan (wallWindow scr k) with service := (s.needOf scr k).service } := if_pos ⟨hq, hd⟩

theorem leaveWindow_of_stays (h : (s.plan (wallWindow scr k)).service ≠ .waiting ∨ ¬ s.dismissed scr k) :
    s.leaveWindow scr k = s := if_neg (not_and_or.mpr h)

theorem releaseWindow_of_gives (hq : (s.plan (wallWindow scr k)).service = .scaled ∨ (s.plan (wallWindow scr k)).service = .granted)
    (hd : s.dismissed scr k) :
    s.releaseWindow scr k = s.giveScaler (wallWindow scr k) (s.needOf scr k).service := if_pos ⟨hq, hd⟩

theorem releaseWindow_of_stays
    (h : ¬ ((s.plan (wallWindow scr k)).service = .scaled ∨ (s.plan (wallWindow scr k)).service = .granted) ∨ ¬ s.dismissed scr k) :
    s.releaseWindow scr k = s := if_neg (not_and_or.mpr h)

/-- A scaler given up is offered at once (R44). -/
theorem giveScaler_of_some {w : WallWindow} {n : ScalerIx} (h : (s.plan w).scaler = some n) (service : Service) :
    s.giveScaler w service = (s.setPlan w { s.plan w with service := service, scaler := none }).offer n := by
  simp only [State.giveScaler, h]

end Windows

/-! ## The statement -/

/-- In `t` the scaler `n` is GRANTED to `w`, which has left the list, and every other plan is as in `s` (R47). -/
def Granted (s : State) (n : ScalerIx) (w : WallWindow) (t : State) : Prop :=
  t.pool.scalers = s.pool.scalers.set n (.granted w) ∧ t.plan w = { s.plan w with service := .granted, scaler := some n } ∧
    (∀ v, v ≠ w → t.plan v = s.plan v) ∧ t.pool.waiting = s.pool.waiting.filter (· ≠ w)

theorem grant_granted (s : State) (n : ScalerIx) (w : WallWindow) : Granted s n w (s.grant n w) :=
  ⟨rfl, plan_grant_self s n w, fun _ h => plan_grant_of_ne s n w h, rfl⟩

theorem filter_ne_cons (w : WallWindow) (rest : List WallWindow) :
    (w :: rest).filter (· ≠ w) = rest.filter (· ≠ w) := List.filter_cons_of_neg (by simp)

/-- Settles O48: the cases of a grant opportunity, then the release stage as a whole, then the stages window by window. -/
theorem arbitrationInItsFourCases : Obligations.ArbitrationInItsFourCases := by
  refine ⟨fun s n => ?offer, fun old s scr => ?stage, fun s scr k => ?window⟩
  case offer =>
    intro t of granted
    have grants {w : WallWindow} {u : State} (h : t = u) (hu : Granted s n w u) : granted w := by
      rw [← h] at hu
      exact hu
    refine ⟨fun w rest hf => ?_, fun w rest hf ha => ?_, fun w rest hf ha hw => ?_, fun w rest hf ha hnone hw => ?_,
      fun hf ha hnone hempty => ?_⟩
    · have ht : t = s.grant n w := offer_of_feature n hf
      refine ⟨grants ht (grant_granted s n w), ?_, ?_⟩
      · rw [ht, pool_grant, feature_setScaler, feature_leave, hf, filter_ne_cons]
      · rw [ht, pool_grant, ambient_setScaler, ambient_leave]
    · have ht : t = (s.grant n w).captureFeature := offer_of_ambient n hf ha
      refine ⟨grants ht (grant_granted s n w), ?_, ?_⟩
      · rw [ht, ← filter_ne_cons w rest, ← ha]
        rfl
      · rw [ht]
        exact capture_grant s n w .feature
    · have hw' : s.capture .feature = w :: rest := hw
      have ht : t = s.newRound.grant n w := by
        rw [show t = _ from offer_of_empty n hf ha, hw']
      refine ⟨grants ht (grant_granted s.newRound n w), ?_, ?_⟩
      · rw [ht, ← filter_ne_cons w rest, ← hw]
        rfl
      · rw [ht]
        rfl
    · have hnone' : s.capture .feature = [] := hnone
      have hw' : s.capture .ambient = w :: rest := hw
      have ht : t = s.newRound.grant n w := by
        rw [show t = _ from offer_of_empty n hf ha, hnone', hw']
      refine ⟨grants ht (grant_granted s.newRound n w), ?_, ?_⟩
      · rw [ht, pool_grant, feature_setScaler, feature_leave, pool_newRound, hnone']
        rfl
      · rw [ht, ← filter_ne_cons w rest, ← hw]
        rfl
    · have hnone' : s.capture .feature = [] := hnone
      have hempty' : s.capture .ambient = [] := hempty
      rw [show t = _ from offer_of_empty n hf ha, hnone', hempty']
      rfl
  case stage =>
    intro others dropped
    have hdropped : s.dropFromSnapshots scr = dropped := dropFromSnapshots_eq s scr
    refine ⟨fun h => ?_, fun h => ?_, rfl, leaveAll_eq s scr⟩
    · rw [← hdropped, State.releaseStage, if_pos h]
    · rw [State.releaseStage, if_neg (not_not_intro h)]
  case window =>
    intro w q economy dismissed called
    have hcalled : (s.needOf scr k).service = called := by cases h : s.needOf scr k <;> simp [called, h, Need.service]
    have hdismissed : s.dismissed scr k ↔ dismissed := or_congr Iff.rfl economy_iff
    refine ⟨fun hq hd => ?_, fun h => leaveWindow_of_stays (h.imp_right hdismissed.not.mpr), fun n hq hd hn => ?_,
      fun h => releaseWindow_of_stays (h.imp not_or.mpr hdismissed.not.mpr), fun n => standbyRelease_of_some s scr k n,
      standbyRelease_of_none s scr k⟩
    · rw [leaveWindow_of_leaves hq (hdismissed.mpr hd), hcalled]
      rfl
    · rw [releaseWindow_of_gives hq (hdismissed.mpr hd), giveScaler_of_some hn, hcalled]

end Sys2Proof.Machine
end

section
/-! PROOF. The law of the pool inside a commit: what holds of records, plans, list and snapshots while a scaler is on offer and windows are about to leave, and that every operation of the pool keeps it (R38, R40 to R42). -/

namespace Sys2Proof.Machine

/-! ## The parts of the law -/

/-- A compositor in STANDBY carries no frame, and its windows hold no scaler, read no slot and have no service (R66). -/
def Compositor.Asleep (c : Compositor) : Prop :=
  c.timing = .stopped ∧
    ∀ k, (c.plans.get k).scaler = none ∧ (c.plans.get k).slot = none ∧
      ((c.plans.get k).service = .off ∨ (c.plans.get k).service = .offscreen)

/-- A service in which a window neither waits nor holds a scaler. -/
def Service.Idle (x : Service) : Prop := x ≠ .granted ∧ x ≠ .scaled ∧ x ≠ .waiting

theorem idle_iff (x : Service) : x.Idle ↔ x = .off ∨ x = .offscreen ∨ x = .exact ∨ x = .economy := by
  cases x <;> simp [Service.Idle]

theorem idle_of_need (d : Need) : d.service.Idle := by cases d <;> exact ⟨nofun, nofun, nofun⟩

/-- Records, plans and waiting list agree, but for a `vacant` scaler, which has been given up and not yet been offered, and for the windows that have `left` the list and still have service WAITING. -/
structure PoolCore (left : WallWindow → Prop) (vacant : Option ScalerIx) (s : State) : Prop where
  granted : ∀ n w, vacant ≠ some n →
    (s.pool.scalers.get n = .granted w ↔ (s.plan w).service = .granted ∧ (s.plan w).scaler = some n)
  active : ∀ n w, vacant ≠ some n →
    (s.pool.scalers.get n = .active w ↔ (s.plan w).service = .scaled ∧ (s.plan w).scaler = some n)
  unnamed : ∀ n w, vacant = some n → (s.plan w).scaler ≠ some n
  holds : ∀ w, (s.plan w).scaler ≠ none ↔ (s.plan w).service = .granted ∨ (s.plan w).service = .scaled
  nodup : s.pool.waiting.Nodup
  listed : ∀ w, w ∈ s.pool.waiting ↔ (s.plan w).service = .waiting ∧ ¬ left w
  busy : ∀ n, vacant ≠ some n → s.pool.scalers.get n = .free → s.pool.waiting = []
  asleep : ∀ scr, (s.comps.get scr).run = .standby → (s.comps.get scr).Asleep

/-- The snapshots hold waiting windows of their class in list order (R42). -/
structure Snapshots (s : State) : Prop where
  feature : s.pool.feature.Sublist s.pool.waiting
  featureClass : s.allOfClass .feature s.pool.feature
  ambient : s.pool.ambient.Sublist s.pool.waiting
  ambientClass : s.allOfClass .ambient s.pool.ambient

/-- No window of an ECONOMY screen waits (R40). -/
def NoEconomyWaits (s : State) : Prop := ∀ w ∈ s.pool.waiting, s.classOf w ≠ .economy

/-- The parts that hold whenever a scaler is offered. -/
structure Serving (left : WallWindow → Prop) (vacant : Option ScalerIx) (s : State) : Prop where
  core : PoolCore left vacant s
  snapshots : Snapshots s
  wanted : NoEconomyWaits s

/-- No window has left the list. -/
def noneLeft : WallWindow → Prop := fun _ => False

theorem poolLaw_iff (s : State) : PoolLaw s ↔ Serving noneLeft none s := by
  constructor
  · rintro ⟨granted, active, holds, nodup, listed, wanted, busy, feature, featureClass, ambient, ambientClass, asleep⟩
    exact
      { core :=
          { granted := fun n w _ => granted n w, active := fun n w _ => active n w, unnamed := nofun, holds, nodup
            listed := fun w => (listed w).trans (and_iff_left id).symm, busy := fun n _ hn => busy ⟨n, hn⟩, asleep }
        snapshots := { feature, featureClass, ambient, ambientClass }
        wanted }
  · intro h
    exact ⟨fun n w => h.core.granted n w nofun, fun n w => h.core.active n w nofun, h.core.holds, h.core.nodup,
      fun w => (h.core.listed w).trans (and_iff_left id), h.wanted, fun ⟨n, hn⟩ => h.core.busy n nofun hn,
      h.snapshots.feature, h.snapshots.featureClass, h.snapshots.ambient, h.snapshots.ambientClass, h.core.asleep⟩

/-! ## Snapshots -/

namespace Snapshots

variable {s : State} (h : Snapshots s)
include h

/-- A list that windows have left, with snapshots that they have left too. -/
theorem keep (f : WallWindow → Bool) : Snapshots (s.setPool (s.pool.keep f)) where
  feature := h.feature.filter f
  featureClass w hw := h.featureClass w (List.mem_of_mem_filter hw)
  ambient := h.ambient.filter f
  ambientClass w hw := h.ambientClass w (List.mem_of_mem_filter hw)

theorem setScaler (n : ScalerIx) (x : Scaler) : Snapshots (s.setPool (s.pool.setScaler n x)) :=
  ⟨h.feature, h.featureClass, h.ambient, h.ambientClass⟩

theorem setPlan (w : WallWindow) (q : Plan) : Snapshots (s.setPlan w q) where
  feature := h.feature
  featureClass v hv := (classOf_setPlan s w q v).trans (h.featureClass v hv)
  ambient := h.ambient
  ambientClass v hv := (classOf_setPlan s w q v).trans (h.ambientClass v hv)

theorem join (w : WallWindow) : Snapshots (s.setPool (s.pool.join w)) where
  feature := h.feature.trans (List.sublist_append_left _ _)
  featureClass := h.featureClass
  ambient := h.ambient.trans (List.sublist_append_left _ _)
  ambientClass := h.ambientClass

theorem grant (n : ScalerIx) (w : WallWindow) : Snapshots (s.grant n w) :=
  ((h.keep (· ≠ w)).setScaler n (.granted w)).setPlan w _

theorem captureFeature : Snapshots s.captureFeature where
  feature := List.filter_sublist
  featureClass _ hw := eq_of_beq (List.mem_filter.mp hw).2
  ambient := h.ambient
  ambientClass := h.ambientClass

theorem captureAmbient : Snapshots s.captureAmbient where
  feature := h.feature
  featureClass := h.featureClass
  ambient := List.filter_sublist
  ambientClass _ hw := eq_of_beq (List.mem_filter.mp hw).2

end Snapshots

/-! ## Records, plans and list -/

namespace PoolCore

variable {left : WallWindow → Prop} {vacant : Option ScalerIx} {s : State}

/-- A window that waits is of no screen in STANDBY. -/
theorem awake_of_waiting (h : PoolCore left vacant s) {w : WallWindow} (hw : (s.plan w).service = .waiting) :
    (s.comps.get (screenOf w)).run ≠ .standby := by
  intro hrun
  obtain ⟨-, idle⟩ := h.asleep _ hrun
  obtain ⟨-, -, hoff | hoff⟩ := idle (windowOf w) <;> exact absurd (hw.symm.trans hoff) nofun

/-- A plan written on a screen that is not in STANDBY leaves every sleeping screen as it is. -/
theorem asleep_setPlan (h : PoolCore left vacant s) {w : WallWindow} (hw : (s.comps.get (screenOf w)).run ≠ .standby)
    (q : Plan) (scr : ScreenIx) (hrun : ((s.setPlan w q).comps.get scr).run = .standby) :
    ((s.setPlan w q).comps.get scr).Asleep := by
  have hs : (s.comps.get scr).run = .standby := ((OnlyPlans.setPlan s w q).run scr).symm.trans hrun
  have hne : screenOf w ≠ scr := fun e => hw (e ▸ hs)
  rw [State.setPlan, State.comps_modComp, Table.get_set_of_ne _ _ hne]
  exact h.asleep scr hs

/-- Only the list and the records matter, not the snapshots. -/
theorem setPool (h : PoolCore left vacant s) {p : Pool} (hs : p.scalers = s.pool.scalers) (hw : p.waiting = s.pool.waiting) :
    PoolCore left vacant (s.setPool p) where
  granted := by
    rw [State.pool_setPool, hs]
    exact h.granted
  active := by
    rw [State.pool_setPool, hs]
    exact h.active
  unnamed := h.unnamed
  holds := h.holds
  nodup := by
    rw [State.pool_setPool, hw]
    exact h.nodup
  listed := by
    rw [State.pool_setPool, hw]
    exact h.listed
  busy := by
    rw [State.pool_setPool, hs, hw]
    exact h.busy
  asleep := h.asleep

/-- A scaler is named by one plan at most (R38). -/
theorem owner_unique (h : PoolCore left vacant s) {v w : WallWindow} {n : ScalerIx} (hv : (s.plan v).scaler = some n)
    (hw : (s.plan w).scaler = some n) : v = w := by
  have hn : vacant ≠ some n := fun e => h.unnamed n v e hv
  have record {u : WallWindow} (hu : (s.plan u).scaler = some n) :
      s.pool.scalers.get n = .granted u ∨ s.pool.scalers.get n = .active u := by
    have hne : (s.plan u).scaler ≠ none := hu ▸ nofun
    exact ((h.holds u).mp hne).imp (fun hg => (h.granted n u hn).mpr ⟨hg, hu⟩) fun ha => (h.active n u hn).mpr ⟨ha, hu⟩
  rcases record hv with rv | rv <;> rcases record hw with rw | rw <;> cases rv.symm.trans rw <;> rfl

/-- What a plan and a pool must be for window `w` to take that plan in that pool: its scaler's record names it and no other plan does, every other record stands, and the list differs at most in `w`. -/
theorem write (h : PoolCore left vacant s) {w : WallWindow} (hrun : (s.comps.get (screenOf w)).run ≠ .standby) {p : Pool}
    {q : Plan} {vacant' : Option ScalerIx} (hholds : q.scaler ≠ none ↔ q.service = .granted ∨ q.service = .scaled)
    (hrecord : ∀ n, vacant' ≠ some n →
      if q.scaler = some n then
        (∀ v, (s.plan v).scaler = some n → v = w) ∧
          p.scalers.get n = if q.service = .granted then .granted w else .active w
      else vacant ≠ some n ∧ (s.plan w).scaler ≠ some n ∧ p.scalers.get n = s.pool.scalers.get n)
    (hunnamed : ∀ n, vacant' = some n → q.scaler ≠ some n ∧ ∀ v, (s.plan v).scaler = some n → v = w)
    (hnodup : p.waiting.Nodup)
    (hlisted : ∀ v, v ∈ p.waiting ↔ if v = w then q.service = .waiting ∧ ¬ left w else v ∈ s.pool.waiting)
    (hbusy : ∀ n, vacant' ≠ some n → p.scalers.get n = .free → p.waiting = []) :
    PoolCore left vacant' ((s.setPool p).setPlan w q) := by
  have plan (v : WallWindow) : ((s.setPool p).setPlan w q).plan v = if v = w then q else s.plan v := plan_setPlan _ w v q
  refine ⟨fun n v hn => ?granted, fun n v hn => ?active, fun n v hn => ?unnamed, fun v => ?holds, hnodup, fun v => ?listed,
    hbusy, PoolCore.asleep_setPlan (s := s.setPool { s.pool with feature := p.feature }) (h.setPool rfl rfl) hrun q⟩
  case granted =>
    have old := h.granted n v
    have record := hrecord n hn
    rw [plan, State.pool_setPlan, State.pool_setPool]
    split at record <;> split <;> grind
  case active =>
    have old := h.active n v
    have record := hrecord n hn
    rw [plan, State.pool_setPlan, State.pool_setPool]
    split at record <;> split <;> grind
  case unnamed =>
    have record := hunnamed n hn
    rw [plan]
    split <;> grind
  case holds =>
    rw [plan]
    split
    · exact hholds
    · exact h.holds v
  case listed =>
    rw [plan, State.pool_setPlan, State.pool_setPool, hlisted]
    split
    · next e => rw [e]
    · exact h.listed v

/-- A window gives up the scaler it names: the scaler is vacant (R49, R50). -/
theorem vacate (h : PoolCore left none s) {w : WallWindow} (hrun : (s.comps.get (screenOf w)).run ≠ .standby) {n : ScalerIx}
    (hn : (s.plan w).scaler = some n) {x : Service} (hx : x.Idle) :
    PoolCore left (some n) (s.setPlan w { s.plan w with service := x, scaler := none }) := by
  have hw := (h.holds w).mp (hn ▸ nofun)
  refine h.write hrun (p := s.pool) ?_ (fun m hm => ?_) (fun m hm => ⟨nofun, fun v hv => ?_⟩) h.nodup (fun v => ?_)
    fun m _ => h.busy m nofun
  · simp [hx.1, hx.2.1]
  · simpa [hn] using hm
  · exact h.owner_unique hv (hn.trans hm)
  · have old := h.listed v
    split <;> grind [Service.Idle]

/-- A vacant scaler is granted to a window that waits (R47). -/
theorem grant {n : ScalerIx} (h : PoolCore left (some n) s) {w : WallWindow} (hw : w ∈ s.pool.waiting) :
    PoolCore left none (s.grant n w) := by
  obtain ⟨hservice, -⟩ := (h.listed w).mp hw
  have hscaler : (s.plan w).scaler = none := by simpa [hservice] using h.holds w
  refine h.write (h.awake_of_waiting hservice) (by simp) (fun m _ => ?_) nofun (h.nodup.filter _) (fun v => ?_)
    fun m _ hm => ?_
  · have unnamed (v : WallWindow) := h.unnamed n v rfl
    rw [scalers_setScaler, scalers_leave, Table.get_set]
    grind
  · simp only [waiting_setScaler, waiting_leave, List.mem_filter]
    split <;> simp_all
  · rw [scalers_setScaler, Table.get_set] at hm
    split at hm
    · cases hm
    · next hne =>
      rw [h.busy m (fun e => hne (Option.some.inj e)) hm] at hw
      cases hw

/-- With no window waiting a vacant scaler is FREE (R44). -/
theorem freeScaler {n : ScalerIx} (h : PoolCore left (some n) s) (hempty : s.pool.waiting = []) :
    PoolCore left none (s.freeScaler n) := by
  have unnamed (v : WallWindow) := h.unnamed n v rfl
  refine ⟨fun m v _ => ?_, fun m v _ => ?_, nofun, h.holds, h.nodup, h.listed, fun _ _ _ => hempty, h.asleep⟩
  · have old := h.granted m v
    simp only [State.freeScaler, State.pool_setPool, scalers_setScaler, Table.get_set, plan_setPool]
    split <;> grind
  · have old := h.active m v
    simp only [State.freeScaler, State.pool_setPool, scalers_setScaler, Table.get_set, plan_setPool]
    split <;> grind

/-- A scaler that no other window names becomes ACTIVE for a window that does not wait (R43, R48). -/
theorem activate (h : PoolCore left none s) {w : WallWindow} (hrun : (s.comps.get (screenOf w)).run ≠ .standby)
    (hw : w ∉ s.pool.waiting) {n : ScalerIx} (alone : ∀ v, (s.plan v).scaler = some n → v = w)
    (hn : (s.plan w).scaler = none ∨ (s.plan w).scaler = some n) : PoolCore left none (s.activate n w) := by
  refine h.write hrun (by simp) (fun m _ => ?_) nofun h.nodup (fun v => ?_) fun m _ hm => ?_
  · rw [scalers_setScaler, Table.get_set]
    grind
  · simp only [waiting_setScaler]
    split <;> simp_all
  · rw [scalers_setScaler, Table.get_set] at hm
    split at hm
    · cases hm
    · exact h.busy m nofun hm

/-- No plan names a FREE scaler (R38). -/
theorem unnamed_of_free (h : PoolCore left none s) {n : ScalerIx} (hn : s.pool.scalers.get n = .free) (v : WallWindow) :
    (s.plan v).scaler ≠ some n := by
  intro hv
  rcases (h.holds v).mp (hv ▸ nofun) with hg | ha
  · cases hn.symm.trans ((h.granted n v nofun).mpr ⟨hg, hv⟩)
  · cases hn.symm.trans ((h.active n v nofun).mpr ⟨ha, hv⟩)

/-- A window that neither waits nor holds a scaler takes another service of that kind. -/
theorem setService (h : PoolCore left none s) {w : WallWindow} (hrun : (s.comps.get (screenOf w)).run ≠ .standby)
    (hw : w ∉ s.pool.waiting) (hn : (s.plan w).scaler = none) {x : Service} (hx : x.Idle) :
    PoolCore left none (s.setPlan w { s.plan w with service := x }) := by
  refine h.write hrun (p := s.pool) (by simp [hn, hx.1, hx.2.1]) (fun m _ => by simp [hn]) nofun h.nodup (fun v => ?_) h.busy
  split <;> simp_all [hx.2.2]

/-- With no scaler FREE a window that holds none joins the list (R40, R43). -/
theorem join (h : PoolCore noneLeft none s) {w : WallWindow} (hrun : (s.comps.get (screenOf w)).run ≠ .standby)
    (hw : w ∉ s.pool.waiting) (hn : (s.plan w).scaler = none) (hfull : ∀ n, s.pool.scalers.get n ≠ .free) :
    PoolCore noneLeft none ((s.setPool (s.pool.join w)).setPlan w { s.plan w with service := .waiting }) := by
  refine h.write hrun (by simp [hn]) (fun m _ => by simp [hn]) nofun ?_ (fun v => ?_) fun m _ hm => absurd hm (hfull m)
  · exact List.nodup_append.mpr ⟨h.nodup, List.nodup_singleton w, by grind⟩
  · rw [waiting_join, List.mem_append, List.mem_singleton]
    split <;> simp_all [noneLeft]

/-- Windows leave the list before their service changes. -/
theorem keep (h : PoolCore left vacant s) (f : WallWindow → Bool) :
    PoolCore (fun w => left w ∨ f w = false) vacant (s.setPool (s.pool.keep f)) where
  granted := h.granted
  active := h.active
  unnamed := h.unnamed
  holds := h.holds
  nodup := h.nodup.filter f
  listed w := by
    have old := h.listed w
    change w ∈ s.pool.waiting.filter f ↔ (s.plan w).service = .waiting ∧ ¬ (left w ∨ f w = false)
    grind
  busy n hn hfree := by
    change s.pool.waiting.filter f = []
    rw [h.busy n hn hfree, List.filter_nil]
  asleep := h.asleep

/-- Who has left the list matters for the windows of service WAITING alone. -/
theorem relax (h : PoolCore left vacant s) {left' : WallWindow → Prop}
    (hl : ∀ w, (s.plan w).service = .waiting → (left w ↔ left' w)) : PoolCore left' vacant s :=
  { h with listed := fun w => (h.listed w).trans (and_congr_right fun hw => (hl w hw).not) }

/-- Of the plans only service and scaler matter, of a compositor only whether it sleeps, and one window without a part in the pool is like another. -/
theorem congr (h : PoolCore left none s) {t : State} {left' : WallWindow → Prop} (hp : t.pool = s.pool)
    (hplans : ∀ w, ((t.plan w).service = (s.plan w).service ∧ (t.plan w).scaler = (s.plan w).scaler ∧ (left w ↔ left' w)) ∨
      ((s.plan w).scaler = none ∧ (t.plan w).scaler = none ∧ (t.plan w).service.Idle ∧ w ∉ s.pool.waiting))
    (hasleep : ∀ scr, (t.comps.get scr).run = .standby → (t.comps.get scr).Asleep) : PoolCore left' none t where
  granted n w hn := by
    have old := h.granted n w hn
    rw [hp]
    rcases hplans w with same | apart <;> grind
  active n w hn := by
    have old := h.active n w hn
    rw [hp]
    rcases hplans w with same | apart <;> grind
  unnamed := nofun
  holds w := by
    have old := h.holds w
    rcases hplans w with same | apart <;> grind [Service.Idle]
  nodup := by
    rw [hp]
    exact h.nodup
  listed w := by
    have old := h.listed w
    rw [hp]
    rcases hplans w with same | apart <;> grind [Service.Idle]
  busy := by
    rw [hp]
    exact h.busy
  asleep := hasleep

end PoolCore

end Sys2Proof.Machine
end

section
/-! PROOF. The stages of a commit keep the law of the pool: a scaler given up goes to a window that waits or is FREE, and after the release stage no window of the screen waits for or holds a scaler that it does not need (R43 to R53). -/

namespace Sys2Proof.Machine

/-- No window of an ECONOMY screen waits where the list has not grown and the classes stand. -/
theorem NoEconomyWaits.mono {s t : State} (h : NoEconomyWaits s) (hw : t.pool.waiting ⊆ s.pool.waiting)
    (hc : ∀ w, t.classOf w = s.classOf w) : NoEconomyWaits t := fun w hm => by
  rw [hc]
  exact h w (hw hm)

/-! ## A grant opportunity (R44) -/

namespace Serving

variable {left : WallWindow → Prop} {s : State}

theorem grant {n : ScalerIx} (h : Serving left (some n) s) {w : WallWindow} (hw : w ∈ s.pool.waiting) :
    Serving left none (s.grant n w) where
  core := h.core.grant hw
  snapshots := h.snapshots.grant n w
  wanted := h.wanted.mono (fun _ => List.mem_of_mem_filter) (State.grant_onlyPlans s n w).classOf

/-- The scaler on offer goes to a window that waits, or becomes FREE when none does. -/
theorem offer {n : ScalerIx} (h : Serving left (some n) s) : Serving left none (s.offer n) := by
  rcases offer_cases n h.snapshots.feature.subset h.snapshots.ambient.subset with
    ⟨w, hw, e | e | e⟩ | ⟨hfeature, hambient, e⟩
  · rw [e]
    exact h.grant hw
  · have granted := h.grant hw
    rw [e]
    exact ⟨granted.core.setPool rfl rfl, granted.snapshots.captureFeature, granted.wanted⟩
  · have captured : Serving left (some n) s.newRound :=
      ⟨h.core.setPool rfl rfl, h.snapshots.captureFeature.captureAmbient, h.wanted⟩
    rw [e]
    exact captured.grant hw
  · have empty : s.pool.waiting = [] := by
      refine List.eq_nil_iff_forall_not_mem.mpr fun w hw => ?_
      have none {c : ScreenClass} (hc : s.capture c = []) : s.classOf w ≠ c := fun e =>
        List.not_mem_nil (hc ▸ List.mem_filter.mpr ⟨hw, beq_iff_eq.mpr e⟩ : w ∈ [])
      cases hcls : s.classOf w with
      | feature => exact none hfeature hcls
      | ambient => exact none hambient hcls
      | economy => exact h.wanted w hw hcls
    rw [e]
    exact ⟨h.core.freeScaler empty, h.snapshots.setScaler n .free, h.wanted⟩

end Serving

/-- The plan of `v` in `t` is the one in `s`, or that plan GRANTED to a window that waited in `s`. -/
def SameOrGranted (s t : State) (v : WallWindow) : Prop :=
  t.plan v = s.plan v ∨
    v ∈ s.pool.waiting ∧ ∃ n, t.plan v = { s.plan v with service := .granted, scaler := some n }

theorem Granted.sameOrGranted {s t : State} {n : ScalerIx} {w : WallWindow} (h : Granted s n w t) (hw : w ∈ s.pool.waiting)
    (v : WallWindow) : SameOrGranted s t v := by
  obtain ⟨-, self, others, -⟩ := h
  by_cases e : v = w
  · subst e
    exact .inr ⟨hw, n, self⟩
  · exact .inl (others v e)

theorem offer_sameOrGranted {s : State} (h : Snapshots s) (n : ScalerIx) (v : WallWindow) : SameOrGranted s (s.offer n) v := by
  rcases offer_cases n h.feature.subset h.ambient.subset with ⟨w, hw, e | e | e⟩ | ⟨-, -, e⟩
  · rw [e]
    exact (grant_granted s n w).sameOrGranted hw v
  · rw [e]
    exact (grant_granted s n w).sameOrGranted hw v
  · rw [e]
    exact (grant_granted s.newRound n w).sameOrGranted hw v
  · rw [e]
    exact .inl rfl

/-! ## A window gives up its scaler (R49, R50, R53) -/

/-- A screen that is not in STANDBY. -/
def State.Awake (s : State) (scr : ScreenIx) : Prop := (s.comps.get scr).run ≠ .standby

theorem OnlyPlans.awake {s t : State} (h : OnlyPlans s t) {scr : ScreenIx} (hs : s.Awake scr) : t.Awake scr := by
  rw [State.Awake, h.run]
  exact hs

section GiveScaler
variable {left : WallWindow → Prop} {s : State} (h : Serving left none s) {w : WallWindow} (hrun : s.Awake (screenOf w))
  {x : Service} (hx : x.Idle)
include h hrun hx

theorem Serving.vacate {n : ScalerIx} (hn : (s.plan w).scaler = some n) :
    Serving left (some n) (s.setPlan w { s.plan w with service := x, scaler := none }) where
  core := h.core.vacate hrun hn hx
  snapshots := h.snapshots.setPlan w _
  wanted := h.wanted.mono (List.Subset.refl _) (classOf_setPlan s w _)

theorem Serving.giveScaler (hw : (s.plan w).scaler ≠ none) : Serving left none (s.giveScaler w x) := by
  obtain ⟨n, hn⟩ := Option.ne_none_iff_exists'.mp hw
  rw [giveScaler_of_some hn]
  exact (h.vacate hrun hx hn).offer

/-- The window that gives up its scaler is left without one, and another window may be granted it. -/
theorem plan_giveScaler (hw : (s.plan w).scaler ≠ none) :
    (s.giveScaler w x).plan w = { s.plan w with service := x, scaler := none } ∧
      ∀ v, v ≠ w → SameOrGranted s (s.giveScaler w x) v := by
  obtain ⟨n, hn⟩ := Option.ne_none_iff_exists'.mp hw
  have vacated := h.vacate hrun hx hn
  have offered := offer_sameOrGranted vacated.snapshots n
  rw [giveScaler_of_some hn]
  refine ⟨?_, fun v hv => ?_⟩
  · rcases offered w with e | ⟨hm, -⟩
    · rw [e, State.plan_setPlan_self]
    · have hwaits := ((vacated.core.listed w).mp hm).1
      rw [State.plan_setPlan_self] at hwaits
      exact absurd hwaits hx.2.2
  · have same := State.plan_setPlan_of_ne s { s.plan w with service := x, scaler := none } hv.symm
    have result := offered v
    rwa [SameOrGranted, same] at result

end GiveScaler

/-! ## The windows of one screen -/

/-- What a walk over a list reaches for each entry and keeps for the others, where an invariant holds all along. -/
theorem foldl_reaches {σ α : Type} {I : σ → Prop} {P : σ → α → Prop} {f : σ → α → σ} (hI : ∀ s b, I s → I (f s b))
    (hP : ∀ s a b, I s → a = b ∨ P s a → P (f s b) a) (xs : List α) {s : σ} (hs : I s) (a : α) (ha : a ∈ xs ∨ P s a) :
    P (xs.foldl f s) a := by
  induction xs generalizing s with
  | nil => exact ha.resolve_left List.not_mem_nil
  | cons b xs ih =>
    refine ih (hI s b hs) ?_
    by_cases hx : a ∈ xs
    · exact .inl hx
    · exact .inr (hP s a b hs (ha.imp_left fun hm => (List.mem_cons.mp hm).resolve_right hx))

theorem SameOrGranted.exists_service {s t : State} {v : WallWindow} (h : SameOrGranted s t v) :
    ∃ x n, t.plan v = { s.plan v with service := x, scaler := n } := by
  rcases h with e | ⟨-, n, e⟩
  · exact ⟨_, _, e⟩
  · exact ⟨_, _, e⟩

section Windows
variable {scr : ScreenIx} {s t : State}

/-- What a window needs follows from its Live record and its plan, service and scaler left aside. -/
theorem dismissed_congr (h : OnlyPlans s t) {k : WindowIx}
    (hq : ∃ x n, t.plan (wallWindow scr k) = { s.plan (wallWindow scr k) with service := x, scaler := n }) :
    t.dismissed scr k ↔ s.dismissed scr k := by
  obtain ⟨x, n, hq⟩ := hq
  rw [plan_wallWindow, plan_wallWindow] at hq
  simp only [State.dismissed, State.needOf, State.economy, h.live, hq]
  rfl

/-- A window that waits needs a scaler, on a screen that is not ECONOMY. -/
def WaitsRightly (scr : ScreenIx) (s : State) (k : WindowIx) : Prop :=
  (s.plan (wallWindow scr k)).service = .waiting → ¬ s.dismissed scr k

/-- So does a window that holds a scaler. -/
def Entitled (scr : ScreenIx) (s : State) (k : WindowIx) : Prop :=
  ¬ (s.plan (wallWindow scr k)).service.Idle → ¬ s.dismissed scr k

/-! ## The windows that leave the list (R49) -/

/-- A window that leaves the list takes another service, and every other plan stands. -/
theorem plan_leaveWindow (k : WindowIx) (v : WallWindow) :
    (s.leaveWindow scr k).plan v = s.plan v ∨
      v = wallWindow scr k ∧ (s.leaveWindow scr k).plan v = { s.plan v with service := (s.needOf scr k).service } := by
  by_cases h : (s.plan (wallWindow scr k)).service = .waiting ∧ s.dismissed scr k
  · rw [leaveWindow_of_leaves h.1 h.2, plan_setPlan]
    split
    · next e => exact .inr ⟨e, by rw [e]⟩
    · exact .inl rfl
  · exact .inl (by rw [leaveWindow_of_stays (not_and_or.mp h)])

theorem waiting_leaveWindow (k : WindowIx) : (s.leaveWindow scr k).pool.waiting ⊆ s.pool.waiting := by
  unfold State.leaveWindow
  simp only
  split
  · exact fun _ => List.mem_of_mem_filter
  · exact List.Subset.refl _

theorem PoolCore.leaveWindow {left : WallWindow → Prop} (h : PoolCore left none s) (hrun : s.Awake scr) (k : WindowIx) :
    PoolCore left none (s.leaveWindow scr k) := by
  by_cases hl : (s.plan (wallWindow scr k)).service = .waiting ∧ s.dismissed scr k
  · have hscaler : (s.plan (wallWindow scr k)).scaler = none := by simpa [hl.1] using h.holds (wallWindow scr k)
    have hgone : wallWindow scr k ∉ s.pool.waiting.filter (· ≠ wallWindow scr k) := by simp
    have idle := idle_of_need (s.needOf scr k)
    rw [leaveWindow_of_leaves hl.1 hl.2, leave_eq_keep]
    have written := (h.keep (· ≠ wallWindow scr k)).setService (x := (s.needOf scr k).service)
      (by rw [State.screenOf_wallWindow]; exact hrun) hgone hscaler idle
    refine written.relax fun v hv => ?_
    rw [plan_setPlan] at hv
    split at hv
    · exact absurd hv idle.2.2
    · simpa using fun e => by contradiction
  · rw [leaveWindow_of_stays (not_and_or.mp hl)]
    exact h

theorem Snapshots.leaveWindow (h : Snapshots s) (k : WindowIx) : Snapshots (s.leaveWindow scr k) := by
  unfold State.leaveWindow
  simp only
  split
  · exact (h.keep _).setPlan _ _
  · exact h

theorem waitsRightly_leaveWindow (j k : WindowIx) (h : j = k ∨ WaitsRightly scr s j) : WaitsRightly scr (s.leaveWindow scr k) j := by
  intro hw
  have same := dismissed_congr (scr := scr) (State.leaveWindow_onlyPlans scr s k) (k := j)
  rcases plan_leaveWindow (s := s) k (wallWindow scr j) with e | ⟨-, e⟩
  · rw [same ⟨_, _, e⟩]
    rw [e] at hw
    rcases h with rfl | h
    · intro hd
      rw [leaveWindow_of_leaves hw hd, State.plan_setPlan_self] at e
      have hservice : (s.needOf scr j).service = .waiting := (congrArg Plan.service e).trans hw
      exact (idle_of_need _).2.2 hservice
    · exact h hw
  · rw [e] at hw
    exact absurd hw (idle_of_need _).2.2

/-! ## The windows that give up their scalers (R49, R50) -/

theorem Serving.releaseWindow {left : WallWindow → Prop} (h : Serving left none s) (hrun : s.Awake scr) (k : WindowIx) :
    Serving left none (s.releaseWindow scr k) := by
  by_cases hg : ((s.plan (wallWindow scr k)).service = .scaled ∨ (s.plan (wallWindow scr k)).service = .granted) ∧
      s.dismissed scr k
  · rw [releaseWindow_of_gives hg.1 hg.2]
    exact h.giveScaler (by rwa [State.screenOf_wallWindow]) (idle_of_need _) ((h.core.holds _).mpr hg.1.symm)
  · rw [releaseWindow_of_stays (not_and_or.mp hg)]
    exact h

/-- In the second pass of the release stage every window that waits does so rightly. -/
structure Releasing (scr : ScreenIx) (s : State) : Prop where
  serving : Serving noneLeft none s
  awake : s.Awake scr
  waits : ∀ k, WaitsRightly scr s k

namespace Releasing

/-- A window that is entitled to what it has stands; another one gives up its scaler, which may be granted to a window that waits. -/
theorem releaseWindow_cases (h : Releasing scr s) (k : WindowIx) :
    (s.releaseWindow scr k = s ∧ Entitled scr s k) ∨
      ((s.releaseWindow scr k).plan (wallWindow scr k)).service.Idle ∧
        ∀ v, v ≠ wallWindow scr k → SameOrGranted s (s.releaseWindow scr k) v := by
  by_cases hg : ((s.plan (wallWindow scr k)).service = .scaled ∨ (s.plan (wallWindow scr k)).service = .granted) ∧
      s.dismissed scr k
  · have idle := idle_of_need (s.needOf scr k)
    obtain ⟨self, others⟩ := plan_giveScaler h.serving (w := wallWindow scr k) (by rw [State.screenOf_wallWindow]; exact h.awake)
      idle ((h.serving.core.holds _).mpr hg.1.symm)
    rw [releaseWindow_of_gives hg.1 hg.2, self]
    exact .inr ⟨idle, others⟩
  · refine .inl ⟨releaseWindow_of_stays (not_and_or.mp hg), fun hidle hd => hidle ⟨fun hs => ?_, fun hs => ?_, fun hs => ?_⟩⟩
    · exact hg ⟨.inr hs, hd⟩
    · exact hg ⟨.inl hs, hd⟩
    · exact h.waits k hs hd

/-- A window's turn in the pass leaves it entitled to what it has, and no other window loses that. -/
theorem entitled_releaseWindow (h : Releasing scr s) (j k : WindowIx) (hj : j = k ∨ Entitled scr s j) :
    Entitled scr (s.releaseWindow scr k) j := by
  rcases h.releaseWindow_cases k with ⟨e, hk⟩ | ⟨idle, others⟩
  · rw [e]
    rcases hj with rfl | hj
    · exact hk
    · exact hj
  · intro hidle
    by_cases e : wallWindow scr j = wallWindow scr k
    · exact absurd idle (e ▸ hidle)
    · have result := others _ e
      rw [dismissed_congr (State.releaseWindow_onlyPlans scr s k) result.exists_service]
      rcases result with same | ⟨hm, -⟩
      · exact (hj.resolve_left fun hjk => e (hjk ▸ rfl)) (same ▸ hidle)
      · exact h.waits j ((h.serving.core.listed _).mp hm).1

theorem waits_releaseWindow (h : Releasing scr s) (j k : WindowIx) : WaitsRightly scr (s.releaseWindow scr k) j := by
  rcases h.releaseWindow_cases k with ⟨e, -⟩ | ⟨idle, others⟩
  · rw [e]
    exact h.waits j
  · intro hw
    by_cases e : wallWindow scr j = wallWindow scr k
    · exact absurd (e ▸ hw) idle.2.2
    · have result := others _ e
      rw [dismissed_congr (State.releaseWindow_onlyPlans scr s k) result.exists_service]
      rcases result with same | ⟨hm, -⟩
      · exact h.waits j (same ▸ hw)
      · exact h.waits j ((h.serving.core.listed _).mp hm).1

theorem releaseWindow (h : Releasing scr s) (k : WindowIx) : Releasing scr (s.releaseWindow scr k) where
  serving := h.serving.releaseWindow h.awake k
  awake := (State.releaseWindow_onlyPlans scr s k).awake h.awake
  waits j := h.waits_releaseWindow j k

end Releasing

/-! ## The requests (R43, R48) -/

/-- In the request stage every window of the screen is entitled to what it has. -/
structure Requesting (scr : ScreenIx) (s : State) : Prop where
  serving : Serving noneLeft none s
  awake : s.Awake scr
  entitled : ∀ k, Entitled scr s k

/-- The second pass of the release stage leaves every window entitled to what it has. -/
theorem Releasing.requesting (h : Releasing scr s) : Requesting scr (windowsInOrder.foldl (State.releaseWindow scr) s) := by
  obtain ⟨serving, awake, -⟩ := foldl_keeps (P := Releasing scr) (fun _ k ht => ht.releaseWindow k) windowsInOrder h
  exact ⟨serving, awake, fun k => foldl_reaches (P := Entitled scr) (fun _ k ht => ht.releaseWindow k)
    (fun _ j k ht hj => ht.entitled_releaseWindow j k hj) windowsInOrder h k (.inl (mem_windowsInOrder k))⟩

namespace Requesting

/-- A request that writes its own window's plan alone. -/
theorem written (h : Requesting scr s) {k : WindowIx} (ht : Serving noneLeft none t) (hp : OnlyPlans s t) {x : Service}
    {n : Option ScalerIx} (self : t.plan (wallWindow scr k) = { s.plan (wallWindow scr k) with service := x, scaler := n })
    (others : ∀ v, v ≠ wallWindow scr k → t.plan v = s.plan v) (hx : x.Idle ∨ ¬ s.dismissed scr k) : Requesting scr t := by
  refine ⟨ht, hp.awake h.awake, fun j hidle => ?_⟩
  by_cases e : wallWindow scr j = wallWindow scr k
  · have hjk : j = k := by rw [← State.windowOf_wallWindow scr j, e, State.windowOf_wallWindow]
    subst hjk
    rw [dismissed_congr hp ⟨_, _, self⟩]
    rw [self] at hidle
    exact hx.resolve_left hidle
  · have same := others _ e
    rw [dismissed_congr hp ⟨_, _, same⟩]
    rw [same] at hidle
    exact h.entitled j hidle

variable (h : Requesting scr s) (k : WindowIx)
include h

theorem run_window : (s.comps.get (screenOf (wallWindow scr k))).run ≠ .standby := by
  rw [State.screenOf_wallWindow]
  exact h.awake

/-- A window that has no part in the pool takes another service without one. -/
theorem setService (hq : (s.plan (wallWindow scr k)).service.Idle) {x : Service} (hx : x.Idle) :
    Requesting scr (s.setPlan (wallWindow scr k) { s.plan (wallWindow scr k) with service := x }) := by
  have hscaler : (s.plan (wallWindow scr k)).scaler = none := by simpa [hq.1, hq.2.1] using h.serving.core.holds (wallWindow scr k)
  have hlist : wallWindow scr k ∉ s.pool.waiting := fun hm => hq.2.2 ((h.serving.core.listed _).mp hm).1
  exact h.written
    ⟨h.serving.core.setService (h.run_window k) hlist hscaler hx, h.serving.snapshots.setPlan _ _,
      h.serving.wanted.mono (List.Subset.refl _) (classOf_setPlan s _ _)⟩
    (OnlyPlans.setPlan s _ _) (State.plan_setPlan_self _ _ _) (fun _ hv => State.plan_setPlan_of_ne _ _ hv.symm) (.inl hx)

theorem activate (hd : ¬ s.dismissed scr k) (hw : (s.plan (wallWindow scr k)).service ≠ .waiting) {n : ScalerIx}
    (alone : ∀ v, (s.plan v).scaler = some n → v = wallWindow scr k)
    (hn : (s.plan (wallWindow scr k)).scaler = none ∨ (s.plan (wallWindow scr k)).scaler = some n) :
    Requesting scr (s.activate n (wallWindow scr k)) := by
  have hlist : wallWindow scr k ∉ s.pool.waiting := fun hm => hw ((h.serving.core.listed _).mp hm).1
  exact h.written
    ⟨h.serving.core.activate (h.run_window k) hlist alone hn, (h.serving.snapshots.setScaler _ _).setPlan _ _,
      h.serving.wanted.mono (List.Subset.refl _) (classOf_setPlan _ _ _)⟩
    ((OnlyPlans.setPool s _).trans (OnlyPlans.setPlan _ _ _)) (State.plan_setPlan_self _ _ _)
    (fun _ hv => State.plan_setPlan_of_ne _ _ hv.symm) (.inr hd)

theorem join (hd : ¬ s.dismissed scr k) (hq : (s.plan (wallWindow scr k)).service.Idle)
    (hfull : ∀ n, s.pool.scalers.get n ≠ .free) :
    Requesting scr ((s.setPool (s.pool.join (wallWindow scr k))).setPlan (wallWindow scr k)
      { s.plan (wallWindow scr k) with service := .waiting }) := by
  have hscaler : (s.plan (wallWindow scr k)).scaler = none := by simpa [hq.1, hq.2.1] using h.serving.core.holds (wallWindow scr k)
  have hlist : wallWindow scr k ∉ s.pool.waiting := fun hm => hq.2.2 ((h.serving.core.listed _).mp hm).1
  have hclass : s.classOf (wallWindow scr k) ≠ .economy := by
    rw [State.classOf, State.screenOf_wallWindow]
    exact fun he => hd (.inr (economy_iff.mpr he))
  refine h.written
    ⟨h.serving.core.join (h.run_window k) hlist hscaler hfull, (h.serving.snapshots.join _).setPlan _ _, fun w hw => ?_⟩
    ((OnlyPlans.setPool s _).trans (OnlyPlans.setPlan _ _ _)) (State.plan_setPlan_self _ _ _)
    (fun _ hv => State.plan_setPlan_of_ne _ _ hv.symm) (.inr hd)
  rw [classOf_setPlan]
  rcases List.mem_append.mp hw with hw | hw
  · exact h.serving.wanted w hw
  · rw [List.mem_singleton.mp hw]
    exact hclass

/-- One window's request, case by case (R43). -/
theorem requestWindow (joined : Bool) : Requesting scr (State.requestWindow scr (s, joined) k).1 := by
  by_cases hneed : s.needOf scr k = .scaler
  · have fresh (hq : (s.plan (wallWindow scr k)).service.Idle) : Requesting scr (State.requestWindow scr (s, joined) k).1 := by
      have hscaler : (s.plan (wallWindow scr k)).scaler = none := by
        simpa [hq.1, hq.2.1] using h.serving.core.holds (wallWindow scr k)
      rw [requestWindow_fresh hneed ((idle_iff _).mp hq)]
      split
      · exact h.setService k hq ⟨nofun, nofun, nofun⟩
      · next heconomy =>
        have hd : ¬ s.dismissed scr k := fun hd => hd.elim (· hneed) heconomy
        split
        · next n hn =>
          have hfree := ((freeScaler_eq_some _ n).mp hn).1
          exact h.activate k hd hq.2.2 (fun v hv => absurd hv (h.serving.core.unnamed_of_free hfree v)) (.inl hscaler)
        · next hn => exact h.join k hd hq ((freeScaler_eq_none _).mp hn)
    cases hservice : (s.plan (wallWindow scr k)).service with
    | off | offscreen | exact | economy => exact fresh ((idle_iff _).mpr (by simp [hservice]))
    | scaled =>
      rw [requestWindow_stands hneed (.inl hservice)]
      exact h
    | waiting =>
      rw [requestWindow_stands hneed (.inr hservice)]
      exact h
    | granted =>
      obtain ⟨n, hn⟩ := Option.ne_none_iff_exists'.mp ((h.serving.core.holds _).mpr (.inl hservice))
      rw [requestWindow_granted hneed hservice hn]
      exact h.activate k (h.entitled k fun hidle => hidle.1 hservice) (hservice ▸ nofun)
        (fun v hv => h.serving.core.owner_unique hv hn) (.inr hn)
  · rw [requestWindow_of_need hneed]
    refine h.setService k (not_not.mp fun hq => h.entitled k hq (.inl hneed)) (idle_of_need _)

theorem asked : Requesting scr (s.asked scr).1 := by
  have walk (ks : List WindowIx) (st : State × Bool) (hst : Requesting scr st.1) :
      Requesting scr (ks.foldl (State.requestWindow scr) st).1 := by
    induction ks generalizing st with
    | nil => exact hst
    | cons k ks ih => exact ih _ (hst.requestWindow k st.2)
  exact walk windowsInOrder (s, false) h

end Requesting

end Windows

end Sys2Proof.Machine
end

section
/-! PROOF. The whole commit keeps the law of the pool: the copied class takes effect on list and snapshots, the stages follow, and a screen that enters STANDBY is left with no part in the pool (R51 to R53, R64, R66). -/

namespace Sys2Proof.Machine

/-! ## What does not concern the pool -/

/-- `t` has the pool of `s`, the other screens as in `s`, and on screen `scr` the run state of `s` and its services and scalers. -/
structure SameServices (scr : ScreenIx) (s t : State) : Prop where
  pool : t.pool = s.pool
  others : ∀ k, k ≠ scr → t.comps.get k = s.comps.get k
  run : (t.comps.get scr).run = (s.comps.get scr).run
  service : ∀ k, ((t.comps.get scr).plans.get k).service = ((s.comps.get scr).plans.get k).service
  scaler : ∀ k, ((t.comps.get scr).plans.get k).scaler = ((s.comps.get scr).plans.get k).scaler

namespace SameServices

variable {scr : ScreenIx} {s t u : State}

theorem refl (s : State) : SameServices scr s s := ⟨rfl, fun _ _ => rfl, rfl, fun _ => rfl, fun _ => rfl⟩

theorem trans (h : SameServices scr s t) (k : SameServices scr t u) : SameServices scr s u where
  pool := k.pool.trans h.pool
  others j hj := (k.others j hj).trans (h.others j hj)
  run := k.run.trans h.run
  service j := (k.service j).trans (h.service j)
  scaler j := (k.scaler j).trans (h.scaler j)

/-- What every step of a walk over a list keeps, the walk keeps. -/
theorem foldl {α : Type} {f : State → α → State} (h : ∀ s a, SameServices scr s (f s a)) (xs : List α) (s : State) :
    SameServices scr s (xs.foldl f s) :=
  foldl_keeps (P := SameServices scr s) (fun t a ht => ht.trans (h t a)) xs (refl s)

theorem ofComps (hp : t.pool = s.pool) (hc : t.comps = s.comps) : SameServices scr s t where
  pool := hp
  others _ _ := by rw [hc]
  run := by rw [hc]
  service _ := by rw [hc]
  scaler _ := by rw [hc]

theorem setComp (s : State) {c : Compositor} (hrun : c.run = (s.comps.get scr).run)
    (hplans : ∀ k, (c.plans.get k).service = ((s.comps.get scr).plans.get k).service ∧
      (c.plans.get k).scaler = ((s.comps.get scr).plans.get k).scaler) : SameServices scr s (s.setComp scr c) where
  pool := rfl
  others k hk := Table.get_set_of_ne _ _ hk.symm
  run := by rw [State.comps_setComp, Table.get_set_self, hrun]
  service k := by rw [State.comps_setComp, Table.get_set_self, (hplans k).1]
  scaler k := by rw [State.comps_setComp, Table.get_set_self, (hplans k).2]

/-- One plan is written on the screen, with the service and the scaler it had. -/
theorem setOnePlan (s : State) (k : WindowIx) {q : Plan} (shown : Table Shown 4)
    (hq : q.service = ((s.comps.get scr).plans.get k).service ∧ q.scaler = ((s.comps.get scr).plans.get k).scaler) :
    SameServices scr s
      (s.setComp scr { s.comps.get scr with plans := (s.comps.get scr).plans.set k q, shown := shown }) := by
  refine setComp s rfl fun j => ?_
  simp only [Table.get_set]
  split
  · next e => exact e ▸ hq
  · exact ⟨rfl, rfl⟩

theorem copyStage (s : State) : SameServices scr s (s.copyStage scr) := by
  unfold State.copyStage
  split
  · exact setComp s rfl fun _ => ⟨rfl, rfl⟩
  · exact refl s

/-- The planner leaves service and scaler to the later stages (R63). -/
theorem planWindow (old : Compositor) (s : State) (k : WindowIx) : SameServices scr s (State.planWindow old scr s k) := by
  rw [planWindow_eq]
  refine setOnePlan s k _ ?_
  unfold State.plannedPlan
  simp only
  split
  · exact ⟨rfl, rfl⟩
  · split <;> exact ⟨rfl, rfl⟩

theorem planned (s : State) : SameServices scr s (s.planned scr) := by
  have stage : SameServices scr (s.copyStage scr) (windowsInOrder.foldl (State.planWindow (s.comps.get scr) scr) (s.copyStage scr)) :=
    foldl (planWindow (s.comps.get scr)) windowsInOrder _
  exact (copyStage s).trans stage

theorem scaler_place (q : Plan) (r : Rect) : (q.place r).scaler = q.scaler := by
  unfold Plan.place
  split <;> rfl

theorem placeWindow (s : State) (k : WindowIx) : SameServices scr s (s.placeWindow scr k) :=
  setOnePlan s k _ ⟨service_place _ _, scaler_place _ _⟩

theorem requestStage (s : State) : SameServices scr (s.asked scr).1 (s.requestStage scr) :=
  (foldl placeWindow windowsInOrder _).trans
    (ofComps (requestStage_onlyEvents s scr).pool (requestStage_onlyEvents s scr).comps)

theorem giveUpSlot (old : Compositor) (s : State) (k : WindowIx) : SameServices scr s (s.giveUpSlot old k) := by
  refine ofComps ?_ (comps_giveUpSlot old s k)
  unfold State.giveUpSlot
  simp only
  split <;> rfl

theorem takeSlot (s : State) (k : WindowIx) : SameServices scr s (s.takeSlot scr k) := by
  have written (slot : Option SlotIx) := setOnePlan s k (q := { (s.comps.get scr).plans.get k with slot := slot })
    (s.comps.get scr).shown ⟨rfl, rfl⟩
  cases h : s.slotFor scr k with
  | some x =>
    rw [takeSlot_of_some s h]
    exact (written (some x.2)).trans (ofComps rfl rfl)
  | none =>
    rw [takeSlot_of_none s h]
    exact written none

theorem slotStage (old : Compositor) (s : State) : SameServices scr s (s.slotStage old scr) :=
  (foldl (giveUpSlot old) windowsInOrder s).trans (foldl takeSlot windowsInOrder _)

theorem startFrame (s : State) (leadIn : Bool) : SameServices scr s (s.startFrame scr leadIn) :=
  (setComp s (c := { s.comps.get scr with timing := .running _ _ leadIn }) rfl fun _ => ⟨rfl, rfl⟩).trans
    (ofComps (State.startLoopedFrames_frame _ scr).pool (State.startLoopedFrames_frame _ scr).comps)

variable (h : SameServices scr s t)
include h

theorem awake (hs : s.Awake scr) : t.Awake scr := by
  rw [State.Awake, h.run]
  exact hs

theorem plans (w : WallWindow) : (t.plan w).service = (s.plan w).service ∧ (t.plan w).scaler = (s.plan w).scaler := by
  by_cases e : screenOf w = scr
  · subst e
    exact ⟨h.service _, h.scaler _⟩
  · simp only [State.plan, h.others _ e, and_self]

theorem classOf_of_ne {w : WallWindow} (hw : screenOf w ≠ scr) : t.classOf w = s.classOf w := by
  simp only [State.classOf, h.others _ hw]

theorem classOf (hl : (t.comps.get scr).live.settings.cls = (s.comps.get scr).live.settings.cls) (w : WallWindow) :
    t.classOf w = s.classOf w := by
  by_cases e : screenOf w = scr
  · subst e
    exact hl
  · exact h.classOf_of_ne e

theorem core {left : WallWindow → Prop} (hs : PoolCore left none s) (hrun : s.Awake scr) : PoolCore left none t := by
  refine hs.congr h.pool (fun w => .inl ⟨(h.plans w).1, (h.plans w).2, Iff.rfl⟩) fun k hk => ?_
  have hne : k ≠ scr := fun e => h.awake hrun (e ▸ hk)
  rw [h.others k hne] at hk ⊢
  exact hs.asleep k hk

theorem serving {left : WallWindow → Prop} (hs : Serving left none s) (hrun : s.Awake scr)
    (hl : (t.comps.get scr).live.settings.cls = (s.comps.get scr).live.settings.cls) : Serving left none t := by
  have hc := h.classOf hl
  obtain ⟨core, ⟨feature, featureClass, ambient, ambientClass⟩, wanted⟩ := hs
  refine ⟨h.core core hrun, ⟨?_, ?_, ?_, ?_⟩, wanted.mono (by rw [h.pool]; exact List.Subset.refl _) hc⟩
  · rwa [h.pool]
  · rw [h.pool]
    exact fun w hw => (hc w).trans (featureClass w hw)
  · rwa [h.pool]
  · rw [h.pool]
    exact fun w hw => (hc w).trans (ambientClass w hw)

end SameServices

/-! ## The copied class (R51, R52) -/

/-- Of a snapshot the windows of the other screens are of its class still. -/
theorem allOfClass_others {scr : ScreenIx} {s t : State} {c : ScreenClass} {ws : List WallWindow} (h : s.allOfClass c ws)
    (hc : ∀ w, screenOf w ≠ scr → t.classOf w = s.classOf w) : t.allOfClass c (ws.filter fun w => screenOf w ≠ scr) := by
  intro w hw
  obtain ⟨hm, hne⟩ := List.mem_filter.mp hw
  rw [hc w (of_decide_eq_true hne)]
  exact h w hm

section Commit
variable {scr : ScreenIx} {s t : State}

/-- The release stage finds the snapshots in order, whether the class has changed or not. -/
theorem snapshots_after_copy (h : SameServices scr s t) (hs : Snapshots s) :
    Snapshots
      (if (s.comps.get scr).live.settings.cls ≠ (t.comps.get scr).live.settings.cls then t.dropFromSnapshots scr else t) := by
  obtain ⟨feature, featureClass, ambient, ambientClass⟩ := hs
  split
  · have hc : ∀ w, screenOf w ≠ scr → (t.dropFromSnapshots scr).classOf w = s.classOf w := fun w hw => h.classOf_of_ne hw
    rw [dropFromSnapshots_eq] at hc ⊢
    refine ⟨?_, allOfClass_others (h.pool ▸ featureClass) hc, ?_, allOfClass_others (h.pool ▸ ambientClass) hc⟩
    · exact List.filter_sublist.trans (h.pool ▸ feature)
    · exact List.filter_sublist.trans (h.pool ▸ ambient)
  · next e =>
    have hc := h.classOf (not_not.mp e).symm
    refine ⟨h.pool ▸ feature, fun w hw => ?_, h.pool ▸ ambient, fun w hw => ?_⟩
    · exact (hc w).trans (featureClass w (h.pool ▸ hw))
    · exact (hc w).trans (ambientClass w (h.pool ▸ hw))

/-- When the windows of a screen that enters STANDBY have left, no window of an ECONOMY screen waits and the snapshots are in order (R53). -/
theorem serving_leaveAll (h : SameServices scr s t) (hs : Serving noneLeft none s) (hrun : s.Awake scr) :
    Serving (fun w => screenOf w = scr) none (t.leaveAll scr) := by
  obtain ⟨core, ⟨feature, featureClass, ambient, ambientClass⟩, wanted⟩ := hs
  rw [leaveAll_eq]
  have hc : ∀ w, screenOf w ≠ scr → (t.setPool (t.pool.keep fun w => screenOf w ≠ scr)).classOf w = s.classOf w :=
    fun w hw => h.classOf_of_ne hw
  refine ⟨((h.core core hrun).keep _).relax fun w _ => by simp [noneLeft],
    ⟨?_, allOfClass_others (h.pool ▸ featureClass) hc, ?_, allOfClass_others (h.pool ▸ ambientClass) hc⟩, fun w hw => ?_⟩
  · exact (h.pool ▸ feature : t.pool.feature.Sublist t.pool.waiting).filter _
  · exact (h.pool ▸ ambient : t.pool.ambient.Sublist t.pool.waiting).filter _
  · obtain ⟨hm, hne⟩ := List.mem_filter.mp hw
    rw [hc w (of_decide_eq_true hne)]
    exact wanted w (h.pool ▸ hm)

/-! ## A screen that stays ACTIVE -/

/-- The first pass of the release stage leaves no window waiting that needs no scaler or whose screen is ECONOMY (R49, R51). -/
theorem releasing_leavePass (hcore : PoolCore noneLeft none s) (hsnap : Snapshots s) (hrun : s.Awake scr)
    (hothers : ∀ w ∈ s.pool.waiting, screenOf w ≠ scr → s.classOf w ≠ .economy) :
    Releasing scr (windowsInOrder.foldl (State.leaveWindow scr) s) := by
  have onlyPlans : OnlyPlans s (windowsInOrder.foldl (State.leaveWindow scr) s) :=
    OnlyPlans.foldl (State.leaveWindow_onlyPlans scr) windowsInOrder s
  obtain ⟨core, snapshots, awake, fewer⟩ := foldl_keeps
    (P := fun t => PoolCore noneLeft none t ∧ Snapshots t ∧ t.Awake scr ∧ t.pool.waiting ⊆ s.pool.waiting)
    (fun t k ⟨hc, hs, hr, hw⟩ => ⟨hc.leaveWindow hr k, hs.leaveWindow k, (State.leaveWindow_onlyPlans scr t k).awake hr,
      fun _ hm => hw (waiting_leaveWindow k hm)⟩) windowsInOrder ⟨hcore, hsnap, hrun, List.Subset.refl _⟩
  have waits (k : WindowIx) : WaitsRightly scr (windowsInOrder.foldl (State.leaveWindow scr) s) k :=
    foldl_reaches (I := fun _ => True) (P := WaitsRightly scr) (fun _ _ _ => trivial)
      (fun _ j k _ hj => waitsRightly_leaveWindow j k hj) windowsInOrder trivial k (.inl (mem_windowsInOrder k))
  refine ⟨⟨core, snapshots, fun w hw => ?_⟩, awake, waits⟩
  by_cases e : screenOf w = scr
  · subst e
    have hwaits := waits (windowOf w)
    rw [WaitsRightly, State.wallWindow_of] at hwaits
    exact fun hclass => hwaits ((core.listed w).mp hw).1 (.inr (economy_iff.mpr hclass))
  · rw [onlyPlans.classOf]
    exact hothers w (fewer hw) e

theorem requesting_releaseStage (h : SameServices scr s t) (hs : Serving noneLeft none s) (hrun : s.Awake scr) :
    Requesting scr (t.releaseStage (s.comps.get scr) scr) := by
  refine (releasing_leavePass ?_ (snapshots_after_copy h hs.snapshots) ?_ ?_).requesting
  · have core := h.core hs.core hrun
    split
    · exact core.setPool rfl rfl
    · exact core
  · split
    · exact h.awake hrun
    · exact h.awake hrun
  · have others : ∀ w ∈ t.pool.waiting, screenOf w ≠ scr → t.classOf w ≠ .economy := fun w hw hne => by
      rw [h.classOf_of_ne hne]
      exact hs.wanted w (h.pool ▸ hw)
    split
    · exact others
    · exact others

theorem asked_onlyPlans (s : State) (scr : ScreenIx) : OnlyPlans s (s.asked scr).1 :=
  State.requestWindows_onlyPlans scr windowsInOrder (s, false)

theorem serving_served (hs : Serving noneLeft none s) (hrun : s.Awake scr) :
    Serving noneLeft none (s.served scr) ∧ (s.served scr).Awake scr := by
  have requested := (requesting_releaseStage (.planned s) hs hrun).asked
  have asked := (State.releaseStage_onlyPlans scr (s.planned scr) (s.comps.get scr)).trans (asked_onlyPlans _ scr)
  have same := (SameServices.requestStage (scr := scr) ((s.planned scr).releaseStage (s.comps.get scr) scr)).trans
    (SameServices.slotStage (s.comps.get scr) (s.requested scr))
  rw [← served_eq_slotStage] at same
  have live := ((served_onlyPlans s scr).live scr).trans (asked.live scr).symm
  exact ⟨same.serving requested.serving requested.awake (congrArg (·.settings.cls) live), same.awake requested.awake⟩

/-! ## A screen that enters STANDBY (R53, R66) -/

theorem Serving.leaveWindow {left : WallWindow → Prop} (h : Serving left none s) (hrun : s.Awake scr) (k : WindowIx) :
    Serving left none (s.leaveWindow scr k) where
  core := h.core.leaveWindow hrun k
  snapshots := h.snapshots.leaveWindow k
  wanted := h.wanted.mono (waiting_leaveWindow k) (State.leaveWindow_onlyPlans scr s k).classOf

theorem Serving.releasePasses {left : WallWindow → Prop} (h : Serving left none s) (hrun : s.Awake scr) :
    Serving left none (s.releasePasses scr) ∧ (s.releasePasses scr).Awake scr := by
  have leaves := foldl_keeps (P := fun t => Serving left none t ∧ t.Awake scr)
    (fun t k ⟨ht, hr⟩ => ⟨ht.leaveWindow hr k, (State.leaveWindow_onlyPlans scr t k).awake hr⟩) windowsInOrder ⟨h, hrun⟩
  exact foldl_keeps (P := fun t => Serving left none t ∧ t.Awake scr)
    (fun t k ⟨ht, hr⟩ => ⟨ht.releaseWindow hr k, (State.releaseWindow_onlyPlans scr t k).awake hr⟩) windowsInOrder leaves

theorem idle_offscreen : Service.Idle .offscreen := ⟨nofun, nofun, nofun⟩

theorem Serving.standbyRelease {left : WallWindow → Prop} (h : Serving left none s) (hrun : s.Awake scr) (k : WindowIx) :
    Serving left none (s.standbyRelease scr k) := by
  unfold State.standbyRelease
  simp only
  split
  · exact h
  · next hn => exact h.giveScaler (by rwa [State.screenOf_wallWindow]) idle_offscreen hn

/-- A scaler given up by a screen that enters STANDBY is never granted back to a window of that screen (R53). -/
theorem scaler_standbyRelease (h : Serving (fun w => screenOf w = scr) none s) (hrun : s.Awake scr) (j k : WindowIx)
    (hj : j = k ∨ (s.plan (wallWindow scr j)).scaler = none) :
    ((s.standbyRelease scr k).plan (wallWindow scr j)).scaler = none := by
  unfold State.standbyRelease
  simp only
  split
  · next hn =>
    rcases hj with rfl | hj
    · exact hn
    · exact hj
  · next hn =>
    obtain ⟨self, others⟩ := plan_giveScaler h (w := wallWindow scr k) (by rwa [State.screenOf_wallWindow]) idle_offscreen hn
    by_cases e : wallWindow scr j = wallWindow scr k
    · rw [e, self]
    · rcases others _ e with same | ⟨hm, -⟩
      · rw [same]
        exact hj.resolve_left fun hjk => e (hjk ▸ rfl)
      · exact absurd (State.screenOf_wallWindow scr j) ((h.core.listed _).mp hm).2

/-- The sleeping screen has no part in the pool. -/
theorem Serving.sleep (h : Serving (fun w => screenOf w = scr) none s)
    (hn : ∀ k, (s.plan (wallWindow scr k)).scaler = none) : Serving noneLeft none (s.modComp scr Compositor.sleep) := by
  have others {k : ScreenIx} (hk : k ≠ scr) : (s.modComp scr Compositor.sleep).comps.get k = s.comps.get k :=
    Table.get_set_of_ne _ _ hk.symm
  have self : (s.modComp scr Compositor.sleep).comps.get scr = (s.comps.get scr).sleep := Table.get_set_self _ _ _
  have service (k : WindowIx) : ((s.comps.get scr).sleep.plans.get k).service = .off ∨
      ((s.comps.get scr).sleep.plans.get k).service = .offscreen := by
    rw [plan_sleep, service_sleep]
    split
    · exact .inl rfl
    · exact .inr rfl
  have hc (w : WallWindow) : (s.modComp scr Compositor.sleep).classOf w = s.classOf w := by
    by_cases e : screenOf w = scr
    · subst e
      rw [State.classOf, self]
      rfl
    · rw [State.classOf, others e]
      rfl
  obtain ⟨core, ⟨feature, featureClass, ambient, ambientClass⟩, wanted⟩ := h
  refine ⟨core.congr rfl (fun w => ?_) fun k hk => ?_,
    ⟨feature, fun w hw => (hc w).trans (featureClass w hw), ambient, fun w hw => (hc w).trans (ambientClass w hw)⟩,
    wanted.mono (List.Subset.refl _) hc⟩
  · by_cases e : screenOf w = scr
    · subst e
      refine .inr ⟨by rw [← State.wallWindow_of w]; exact hn _, ?_, ?_, fun hm => ((core.listed w).mp hm).2 rfl⟩
      · rw [State.plan, self, plan_sleep, scaler_sleep]
      · rw [State.plan, self]
        exact (idle_iff _).mpr ((service (windowOf w)).imp_right .inl)
    · exact .inl ⟨by rw [State.plan, others e]; rfl, by rw [State.plan, others e]; rfl, by simp [noneLeft, e]⟩
  · by_cases e : k = scr
    · subst e
      rw [self]
      exact ⟨timing_sleep _, fun j => ⟨by rw [plan_sleep, scaler_sleep], by rw [plan_sleep, slot_sleep], service j⟩⟩
    · rw [others e] at hk ⊢
      exact core.asleep k hk

theorem serving_standbyStage (h : Serving (fun w => screenOf w = scr) none s) (hrun : s.Awake scr) (old : Compositor) :
    Serving noneLeft none (s.standbyStage old scr) := by
  have step (t : State) (k : WindowIx) (ht : Serving (fun w => screenOf w = scr) none t ∧ t.Awake scr) :
      Serving (fun w => screenOf w = scr) none (t.standbyRelease scr k) ∧ (t.standbyRelease scr k).Awake scr :=
    ⟨ht.1.standbyRelease ht.2 k, (State.standbyRelease_onlyPlans scr t k).awake ht.2⟩
  obtain ⟨given, awake⟩ := foldl_keeps step windowsInOrder ⟨h, hrun⟩
  have unnamed (k : WindowIx) : ((windowsInOrder.foldl (State.standbyRelease scr) s).plan (wallWindow scr k)).scaler = none :=
    foldl_reaches (P := fun t k => (t.plan (wallWindow scr k)).scaler = none) step
      (fun _ j k ht hj => scaler_standbyRelease ht.1 ht.2 j k hj) windowsInOrder ⟨h, hrun⟩ k (.inl (mem_windowsInOrder k))
  have slots : SameServices scr (windowsInOrder.foldl (State.standbyRelease scr) s) (s.freed old scr) :=
    .foldl (SameServices.giveUpSlot old) windowsInOrder _
  have comps : (s.freed old scr).comps = (windowsInOrder.foldl (State.standbyRelease scr) s).comps :=
    foldl_keeps (P := fun t => t.comps = (windowsInOrder.foldl (State.standbyRelease scr) s).comps)
      (fun t k ht => (comps_giveUpSlot old t k).trans ht) windowsInOrder rfl
  rw [standbyStage_eq]
  exact (slots.serving given awake (by rw [comps])).sleep fun k => (slots.plans _).2.trans (unnamed k)

/-- The commit of an ACTIVE screen keeps the law. -/
theorem PoolLaw.commit (h : PoolLaw s) (hrun : s.Awake scr) : PoolLaw (s.commit scr) := by
  rw [poolLaw_iff] at h ⊢
  rw [commit_eq]
  split
  · obtain ⟨released, awake⟩ := (serving_leaveAll (.planned s) h hrun).releasePasses
      ((State.leaveAll_onlyPlans scr _).awake ((SameServices.planned s).awake hrun))
    exact serving_standbyStage released awake _
  · obtain ⟨served, awake⟩ := serving_served h hrun
    exact (SameServices.startFrame _ false).serving served awake (by rw [live_startFrame])

end Commit

end Sys2Proof.Machine
end

section
/-! PROOF. Every command keeps the law of the pool: most leave pool and compositors alone, time runs the frames of the screens that have one, a wake and a wall reset keep the law, and a boundary commits. -/

namespace Sys2Proof.Machine

/-- `t` has the compositors and the pool of `s`. -/
structure SamePool (s t : State) : Prop where
  comps : t.comps = s.comps
  pool : t.pool = s.pool

namespace SamePool

variable {s t u : State}

theorem refl (s : State) : SamePool s s := ⟨rfl, rfl⟩

theorem trans (h : SamePool s t) (k : SamePool t u) : SamePool s u := ⟨k.comps.trans h.comps, k.pool.trans h.pool⟩

theorem ofEvents (h : OnlyEvents s t) : SamePool s t := ⟨h.comps, h.pool⟩

theorem ofInputs {P : InputIx → Prop} (h : OnlyInputs P s t) : SamePool s t := ⟨h.comps, h.pool⟩

theorem setLink (s : State) (l : Link) (x : LinkState) : SamePool s (s.setLink l x) := ⟨by simp, by simp⟩

theorem modLink (s : State) (l : Link) (g : LinkState → LinkState) : SamePool s (s.modLink l g) := setLink s l _

theorem reply (s : State) (l : Link) (body : List Byte) : SamePool s (s.reply l body) := modLink s l _

theorem takeEdit (s : State) (l : Link) : SamePool s (s.takeEdit l) := (modLink s l _).trans ⟨rfl, rfl⟩

theorem refuse (s : State) (l : Link) (kind : EditKind) (screens : List ScreenIx) (reason : RefusalReason) :
    SamePool s (s.refuse l kind screens reason) := by
  rw [refuse_frame]
  exact setLink s l _

theorem linkReset (s : State) (l : Link) : SamePool s (s.linkReset l) := (modLink s l LinkState.reset).trans ⟨rfl, rfl⟩

theorem takeEditRequest (s : State) (l : Link) (tag : Byte) (k : EditKind) (f : List Byte) :
    SamePool s (s.takeEditRequest l tag k f) := by
  unfold State.takeEditRequest
  split
  · exact reply s l _
  · split
    · exact (modLink s l _).trans (reply _ l _)
    · exact reply s l _

theorem takeQueryRequest (s : State) (l : Link) (tag : Byte) (k : QueryKind) (f : List Byte) :
    SamePool s (s.takeQueryRequest l tag k f) := by
  unfold State.takeQueryRequest
  split
  · exact reply s l _
  · split
    · exact (modLink s l _).trans (reply _ l _)
    · exact reply s l _

theorem takeSetEvents (s : State) (l : Link) (tag : Byte) (f : List Byte) : SamePool s (s.takeSetEvents l tag f) := by
  unfold State.takeSetEvents
  split
  · exact (modLink s l _).trans (reply _ l _)
  · exact reply s l _

theorem settleGap (s : State) (l : Link) : SamePool s (s.settleGap l) := by
  unfold State.settleGap
  simp only
  split
  · exact setLink s l _
  · exact refl s

theorem pinEdit (s : State) (l : Link) (kind : EditKind) (scr : ScreenIx) (pin : Pin) : SamePool s (s.pinEdit l kind scr pin) := by
  have set : SamePool s (s.setPin scr pin) := ⟨rfl, rfl⟩
  unfold State.pinEdit
  split
  · split
    · exact set.trans (.ofEvents (OnlyEvents.raise _ _ _ _))
    · exact refuse s l kind _ _
  · exact set

theorem unpinScreen (s : State) (l : Link) (scr : ScreenIx) : SamePool s (s.unpinScreen l scr) := by
  unfold State.unpinScreen
  split
  · exact refl s
  · exact pinEdit s l _ _ _

theorem snapshots (s : State) (mode : SnapshotMode) (p : InputIx → Bool) : SamePool s (s.snapshots mode p) :=
  have frame := State.snapshots_frame s mode p
  ⟨frame.comps, frame.pool⟩

theorem expireHold (s : State) (scr : ScreenIx) : SamePool s (s.expireHold scr) := by
  have set : SamePool s (s.setHold scr .clear) := ⟨rfl, rfl⟩
  unfold State.expireHold
  split
  · exact set.trans (.ofEvents (OnlyEvents.raise _ _ _ _))
  · exact refl s

theorem answer (s : State) (l : Link) : SamePool s (s.answer l) := by
  unfold State.answer
  split
  · exact modLink s l _
  · exact refl s

theorem acquisitionExpiry (i : InputIx) (s : State) : SamePool s (s.acquisitionExpiry i) := by
  unfold State.acquisitionExpiry
  simp only
  split
  · exact .ofInputs (State.loseInput_frame i s)
  · exact refl s

theorem missExpiry (i : InputIx) (s : State) : SamePool s (s.missExpiry i) := by
  unfold State.missExpiry
  simp only
  split
  · split
    · exact .ofInputs ((State.abandonSlot_frame i s).trans (State.loseInput_frame i _))
    · exact .ofInputs (State.setFront_frame i s _)
  · exact refl s

theorem judgeBlock (s : State) : SamePool s s.judgeBlock := by
  have set : SamePool s (s.setDetector s.detector.judge) := ⟨rfl, rfl⟩
  unfold State.judgeBlock
  split
  · simp only
    split
    · exact set
    · exact set.trans (.ofEvents (OnlyEvents.raiseAnnounce _ _))
  · exact refl s

theorem sampleZone (an : Sample) (s : State) (k : ZoneIx) : SamePool s (s.sampleZone an k) := by
  obtain ⟨z, frame⟩ := sampleZone_frame an s k
  exact ⟨frame.comps, frame.pool⟩

theorem samplePeriod (an : Sample) (s : State) : SamePool s (s.samplePeriod an) := by
  have zones := foldl_keeps (P := SamePool s) (fun t k ht => ht.trans (sampleZone an t k)) zonesInOrder (judgeBlock s)
  have pop (t : State) : SamePool t t.popAudio := ⟨rfl, rfl⟩
  have set (t : State) (d : Detector) : SamePool t (t.setDetector d) := ⟨rfl, rfl⟩
  exact (zones.trans (pop _)).trans (set _ _)

end SamePool

/-! ## The law under power-on, time, wakes and wall resets -/

/-- Every scaler is FREE, every plan OFF, the list and the snapshots are empty, and no screen sleeps (R38, R54). -/
theorem poolLaw_of_initial {s : State} (hpool : s.pool = .initial) (hplan : ∀ w, s.plan w = .off)
    (hrun : ∀ scr, (s.comps.get scr).run = .active) : PoolLaw s := by
  refine ⟨?_, ?_, ?_, ?_, ?_, ?_, ?_, ?_, ?_, ?_, ?_, fun scr h => nomatch (hrun scr).symm.trans h⟩
  all_goals simp [hpool, hplan, Pool.initial, Plan.off, State.allOfClass]

/-- The inputs looped from the screens that wake take the start of a frame; a wall reset does nothing else after what it sets (R79, R92). -/
theorem wallReset_frame (s : State) : OnlyInputs (fun _ => True) s.wallClear s.wallReset :=
  OnlyInputs.foldl (fun t scr => (State.startLoopedFrames_frame t scr).mono fun _ _ => trivial) s.sleeping s.wallClear

theorem comp_wallReset (s : State) (scr : ScreenIx) : s.wallReset.comps.get scr = (s.comps.get scr).wallReset := by
  rw [(wallReset_frame s).comps]
  exact Table.get_map _ _ _

theorem poolLaw_wallReset (s : State) : PoolLaw s.wallReset :=
  poolLaw_of_initial (wallReset_frame s).pool (fun w => by rw [State.plan, comp_wallReset]; exact plan_powerOn _)
    fun scr => by rw [comp_wallReset]; rfl

theorem poolLaw_afterPowerOn (rank : Rank) (rateA rateB : LineRate) (pending : List Instr) :
    PoolLaw (.afterPowerOn rank rateA rateB pending) :=
  poolLaw_of_initial rfl (State.plan_afterPowerOn _ _ _ _) fun scr => by rw [State.comp_afterPowerOn]; rfl

/-- A wake copies the flag and begins a lead-in frame on its own screen (R78). -/
theorem comp_wake (s : State) (scr k : ScreenIx) :
    (s.wake scr).comps.get k = if k = scr then (s.comps.get scr).awake else s.comps.get k := by
  split
  · next e =>
    rw [e, State.wake, comp_startFrame, State.comps_modComp, Table.get_set_self]
    rfl
  · next e => exact ((SameServices.startFrame _ true).others k e).trans (Table.get_set_of_ne _ _ fun h => e h.symm)

theorem pool_wake (s : State) (scr : ScreenIx) : (s.wake scr).pool = s.pool := (SameServices.startFrame (scr := scr) _ true).pool

namespace PoolLaw

variable {s : State} (hs : PoolLaw s)
include hs

/-- The law reads the pool, the plans, the classes, and which screens sleep. -/
theorem of_same {t : State} (hp : t.pool = s.pool) (hplan : ∀ w, t.plan w = s.plan w) (hc : ∀ w, t.classOf w = s.classOf w)
    (hasleep : ∀ scr, (t.comps.get scr).run = .standby → (t.comps.get scr).Asleep) : PoolLaw t := by
  obtain ⟨granted, active, holds, nodup, listed, wanted, busy, feature, featureClass, ambient, ambientClass, -⟩ := hs
  simp only [PoolLaw, State.allOfClass, hp, hplan, hc]
  exact ⟨granted, active, holds, nodup, listed, wanted, busy, feature, featureClass, ambient, ambientClass, hasleep⟩

theorem asleep {scr : ScreenIx} (h : (s.comps.get scr).run = .standby) : (s.comps.get scr).Asleep :=
  ((poolLaw_iff s).mp hs).core.asleep scr h

theorem congr {t : State} (h : SamePool s t) : PoolLaw t :=
  hs.of_same h.pool (fun w => by rw [State.plan, h.comps]; rfl) (fun w => by rw [State.classOf, h.comps]; rfl)
    fun scr => by
      rw [h.comps]
      exact hs.asleep

/-- Time runs on the screens that carry a frame. -/
theorem elapse (n : Nat) : PoolLaw (s.elapse n) := by
  refine hs.of_same (State.pool_elapse n s) (fun w => ?_) (fun w => ?_) fun scr h => ?_
  · rw [State.plan, State.comp_elapse]
    rfl
  · rw [State.classOf, State.comp_elapse]
    rfl
  · rw [State.comp_elapse] at h ⊢
    obtain ⟨stopped, idle⟩ := hs.asleep h
    exact ⟨congrArg (Timing.elapse n) stopped, idle⟩

/-- A screen that wakes keeps its plans, which have no part in the pool, and its class (R78). -/
theorem wake (scr : ScreenIx) : PoolLaw (s.wake scr) := by
  refine hs.of_same (pool_wake s scr) (fun w => ?_) (fun w => ?_) fun k h => ?_
  · rw [State.plan, comp_wake]
    split
    · next e => rw [← e]; rfl
    · rfl
  · rw [State.classOf, comp_wake]
    split
    · next e => rw [← e]; rfl
    · rfl
  · rw [comp_wake] at h ⊢
    split at h
    · cases h
    · next e =>
      rw [if_neg e]
      exact hs.asleep h

/-! ## Requests and receive lines (R157 to R164) -/

theorem takeFrame (l : Link) (kind tag : Byte) (f : List Byte) : PoolLaw (s.takeFrame l kind tag f) := by
  unfold State.takeFrame
  split
  · next k _ =>
    unfold State.takeNamed
    split
    · cases k with
      | edit e => exact hs.congr (.takeEditRequest s l tag e f)
      | query q => exact hs.congr (.takeQueryRequest s l tag q f)
      | identify => exact hs.congr (.reply s l _)
      | takeEvents => exact hs.congr ((SamePool.modLink s l _).trans (.reply _ l _))
      | setEvents => exact hs.congr (.takeSetEvents s l tag f)
      | wallReset =>
        simp only [State.takeKind, State.takeWallReset]
        split
        · exact hs.congr (.reply s l _)
        · exact (poolLaw_wallReset s).congr (.reply _ l _)
      | linkReset => exact hs.congr ((SamePool.linkReset s l).trans (.reply _ l _))
    · exact hs.congr (.reply s l _)
  · exact hs.congr (.reply s l _)

theorem complete (l : Link) (kind tag : Byte) (f : List Byte) : PoolLaw (s.complete l kind tag f) := by
  have arrived : PoolLaw (s.modLink l fun x => x.arrived s.clock) := hs.congr (.modLink s l _)
  unfold State.complete
  split
  · simp only
    split
    · exact arrived.takeFrame l kind tag f
    · exact arrived.congr (.modLink _ l _)
  · exact hs

theorem takeBody (l : Link) (body : List Byte) : PoolLaw (s.takeBody l body) := by
  unfold State.takeBody
  split
  · exact hs.takeFrame l _ _ _
  · exact hs
  · exact hs

theorem parseOnce (l : Link) {t : State} (h : s.parseOnce l = some t) : PoolLaw t := by
  have next {t : State} (h : (s.link l).takeNext.map (s.setLink l) = some t) : PoolLaw t := by
    obtain ⟨x, -, rfl⟩ := Option.map_eq_some_iff.mp h
    exact hs.congr (.setLink s l x)
  unfold State.parseOnce at h
  simp only at h
  split at h
  · split at h
    · cases h
      exact (hs.congr (.setLink s l _)).takeBody l _
    · cases h
  all_goals exact next h

theorem parse (l : Link) : PoolLaw (s.parse l) := by
  have parseFor (n : Nat) (t : State) (ht : PoolLaw t) : PoolLaw (State.parseFor l n t) := by
    induction n generalizing t with
    | zero => exact ht
    | succ n ih =>
      unfold State.parseFor
      split
      · next h => exact ih _ (ht.parseOnce l h)
      · exact ht
  exact (parseFor _ s hs).congr (.settleGap _ l)

theorem arrive (l : Link) (b : Byte) (stop : Bool) : PoolLaw (s.arrive l b stop) := (hs.congr (.modLink s l _)).parse l

theorem holdZero (l : Link) : PoolLaw (s.holdZero l) := by
  unfold State.holdZero
  split
  · exact hs
  · exact (hs.elapse _).arrive l 0 false

/-! ## Applications (R117 to R132) -/

theorem writeStaged (scr : ScreenIx) (r : ScreenRecord) : PoolLaw (s.writeStaged scr r) := by
  have written : PoolLaw (s.setStaged scr r) := hs.congr ⟨rfl, rfl⟩
  unfold State.writeStaged
  simp only
  split
  · exact written.wake scr
  · exact written

theorem screenEdit (l : Link) (kind : EditKind) (hold : Bool) (scr : ScreenIx) (write : ScreenRecord → ScreenRecord) :
    PoolLaw (s.screenEdit l kind hold scr write) := by
  unfold State.screenEdit
  split
  · exact hs.congr (.refuse s l kind _ _)
  · exact (hs.writeStaged scr _).congr ⟨rfl, rfl⟩

theorem groupEdit (l : Link) (screens : List ScreenIx) (c : GroupChange) : PoolLaw (s.groupEdit l screens c) := by
  have written := foldl_keeps (P := PoolLaw) (f := fun t k => t.writeStaged k ((t.staged.get k).groupChange c))
    (fun _ k ht => ht.writeStaged k _) (screens.filter fun k => !s.pinStops l k) hs
  exact written.congr (.refuse _ _ _ _ _)

/-- The application of a queued edit of one kind: the state it was taken from keeps the law. -/
theorem taken (l : Link) : PoolLaw (s.takeEdit l) := hs.congr (.takeEdit s l)

theorem execApplySetMain : Leads PoolLaw (execApplySetMain s) := by
  unfold Machine.execApplySetMain
  split
  · exact .next ((hs.taken _).screenEdit _ _ _ _ _)
  · exact .next hs

theorem execApplySetInset : Leads PoolLaw (execApplySetInset s) := by
  unfold Machine.execApplySetInset
  split
  · exact .next ((hs.taken _).screenEdit _ _ _ _ _)
  · exact .next hs

theorem execApplyClearInset : Leads PoolLaw (execApplyClearInset s) := by
  unfold Machine.execApplyClearInset
  split
  · exact .next ((hs.taken _).screenEdit _ _ _ _ _)
  · exact .next hs

theorem execApplyClearScreen : Leads PoolLaw (execApplyClearScreen s) := by
  unfold Machine.execApplyClearScreen
  split
  · exact .next ((hs.taken _).screenEdit _ _ _ _ _)
  · exact .next hs

theorem execApplySwap : Leads PoolLaw (execApplySwap s) := by
  unfold Machine.execApplySwap
  split
  · exact .next ((hs.taken _).screenEdit _ _ _ _ _)
  · exact .next hs

theorem execApplySetScreen : Leads PoolLaw (execApplySetScreen s) := by
  unfold Machine.execApplySetScreen
  split
  · exact .next ((hs.taken _).screenEdit _ _ _ _ _)
  · exact .next hs

theorem execApplyGroup : Leads PoolLaw (execApplyGroup s) := by
  unfold Machine.execApplyGroup
  split
  · exact .next ((hs.taken _).groupEdit _ _ _)
  · exact .next hs

theorem execApplyPin : Leads PoolLaw (execApplyPin s) := by
  unfold Machine.execApplyPin
  split
  · exact .next ((hs.taken _).congr (.pinEdit _ _ _ _ _))
  · exact .next hs

theorem execApplyUnpin : Leads PoolLaw (execApplyUnpin s) := by
  unfold Machine.execApplyUnpin
  split
  · exact .next ((hs.taken _).congr (.unpinScreen _ _ _))
  · exact .next hs

theorem execApplySetInput : Leads PoolLaw (execApplySetInput s) := by
  unfold Machine.execApplySetInput
  split
  · exact .next ((hs.taken _).congr (.ofInputs (State.applyInputSettings_frame _ _ _)))
  · exact .next hs

theorem execApplySetZone : Leads PoolLaw (execApplySetZone s) := by
  unfold Machine.execApplySetZone
  split
  · exact .next ((hs.taken _).congr ⟨rfl, rfl⟩)
  · exact .next hs

theorem execApplySnapshotCounters : Leads PoolLaw (execApplySnapshotCounters s) := by
  unfold Machine.execApplySnapshotCounters
  split
  · exact .next ((hs.taken _).congr (.snapshots _ _ _))
  · exact .next hs

/-! ## Lines, frames and boundaries -/

theorem breakLine (l : Link) : PoolLaw (s.breakLine l) := hs.congr ((SamePool.modLink s l _).trans (.linkReset _ l))

theorem endTransmission (l : Link) : PoolLaw (s.endTransmission l) := PoolLaw.parse (hs.congr (.modLink s l _)) l

theorem execActiveLine (i : InputIx) (pixels : List Colour) : Leads PoolLaw (execActiveLine i pixels s) := by
  unfold Machine.execActiveLine
  split
  · exact .next (hs.congr (.ofInputs (State.activeLine_frame i s pixels)))
  · exact .ite (.next (hs.congr (.ofInputs (State.activeLine_frame i s _)))) (.next hs)

theorem execFrameEnd (i : InputIx) (audio : Option (List Stereo)) : Leads PoolLaw (execFrameEnd i audio s) := by
  unfold Machine.execFrameEnd
  split
  · exact .next (hs.congr (.ofInputs (State.frameEnd_frame i s audio)))
  · exact .ite (.next hs) (.next (hs.congr (.ofInputs (State.frameEnd_frame i s none))))

/-- A boundary commits the screen, which is ACTIVE: a screen in STANDBY has no boundary (R61, R66). -/
theorem execBoundary (scr : ScreenIx) : Leads PoolLaw (execBoundary scr s) := by
  unfold Machine.execBoundary
  split
  · exact .next hs
  · next hrun =>
    have frame := State.endLoopedFrames_frame (s.elapse (s.toBoundary scr)) scr
    refine .next (PoolLaw.commit ((hs.elapse _).congr (.ofInputs frame)) ?_)
    rw [State.Awake, frame.comps, State.comp_elapse]
    exact hrun

/-- Every command keeps the law. -/
theorem exec (c : Instr) : Leads PoolLaw (exec c s) := by
  cases c with
  | powerOn rank rateA rateB => exact .next (poolLaw_afterPowerOn rank rateA rateB s.pending)
  | setMain l tag f | setInset l tag f | clearInset l tag f | clearScreen l tag f | swap l tag f | setScreen l tag f
  | group l tag f | pin l tag f | unpin l tag f | setInput l tag f | setZone l tag f | snapshotCounters l tag f
  | readScreen l tag f | readWindow l tag f | readInput l tag f | readZone l tag f | readPool l tag f
  | readCounters l tag f | readLink l tag f | identify l tag f | takeEvents l tag f | setEvents l tag f
  | wallReset l tag f | linkReset l tag f => exact .next (hs.complete l _ tag f)
  | unknownKind l kind tag f => exact .next (hs.complete l kind tag f)
  | applySetMain => exact hs.execApplySetMain
  | applySetInset => exact hs.execApplySetInset
  | applyClearInset => exact hs.execApplyClearInset
  | applyClearScreen => exact hs.execApplyClearScreen
  | applySwap => exact hs.execApplySwap
  | applySetScreen => exact hs.execApplySetScreen
  | applyGroup => exact hs.execApplyGroup
  | applyPin => exact hs.execApplyPin
  | applyUnpin => exact hs.execApplyUnpin
  | applySetInput => exact hs.execApplySetInput
  | applySetZone => exact hs.execApplySetZone
  | applySnapshotCounters => exact hs.execApplySnapshotCounters
  | answerEvent l => exact .next (hs.congr (.answer s l))
  | oneSecondTick => exact .next (hs.elapse _)
  | pinLapsed scr => exact .ite (.next hs) (.next (hs.elapse _))
  | holdExpired scr => exact .ite (.next hs) (.next ((hs.elapse _).congr (.expireHold _ scr)))
  | arrival l wait b stop => exact .next ((hs.elapse wait).arrive l b stop)
  | interByteTimeout l => exact .ite (.next ((hs.elapse _).congr (.settleGap _ l))) (.next hs)
  | lineBreak l => exact .next (((hs.holdZero l).elapse _).breakLine l)
  | transmissionEnd l => exact .ite (.next hs) (.next ((hs.elapse _).endTransmission l))
  | frameStart i wait =>
    exact .ite (.next ((hs.elapse wait).congr (.ofInputs (State.frameStart_frame i _)))) (.next (hs.elapse wait))
  | activeLine i pixels => exact hs.execActiveLine i pixels
  | frameEnd i audio => exact hs.execFrameEnd i audio
  | acquisitionTimerExpiry i => exact .ite (.next hs) (.next ((hs.elapse _).congr (.acquisitionExpiry i _)))
  | missIntervalExpiry i => exact .ite (.next hs) (.next ((hs.elapse _).congr (.missExpiry i _)))
  | slateHoldExpiry i =>
    exact .ite (.next ((hs.elapse _).congr (.ofInputs (State.modFront_frame i _ _)))) (.next hs)
  | samplePeriod an => exact .next (hs.congr (.samplePeriod an s))
  | blockJudgement => exact .next (hs.congr (.judgeBlock s))
  | boundary scr => exact hs.execBoundary scr

end PoolLaw

/-- Settles O59: every command keeps the law of the pool, the passing of time keeps it, and the queue of commands has no part in it. -/
theorem everyStepKeepsThePoolLaw : Obligations.EveryStepKeepsThePoolLaw := fun _ t hs h =>
  step_keeps (P := PoolLaw) (fun _ _ hs => hs.congr ⟨rfl, rfl⟩) (fun c _ hs => hs.exec c) (fun n _ hs => hs.elapse n) hs t h

end Sys2Proof.Machine
end

section
/-! PROOF. A wall reset: what it sets, what it keeps, and the start of a frame at the inputs looped from the screens that wake (R79, R92, R102, R114, R136, R137, R177). -/

namespace Sys2Proof.Machine

/-! ## What a frame start does not touch -/

/-- `P` does not see what a frame start writes: front ends, and slots filled and abandoned (R88, R103, R105). -/
structure StartFree (P : State → Prop) : Prop where
  setFront : ∀ s i f, P s → P (s.setFront i f)
  fill : ∀ s i n seq, P s → P (s.modRing i fun r => r.fill n seq)
  abandon : ∀ s i n, P s → P (s.modRing i fun r => r.abandon n)

namespace StartFree

variable {P : State → Prop} (h : StartFree P) {s : State} (hs : P s)
include h hs

theorem abandonSlot (i : InputIx) : P (s.abandonSlot i) := by
  unfold State.abandonSlot
  split
  · split
    · exact h.setFront _ i _ (h.abandon s i _ hs)
    · exact hs
  · exact hs

theorem askSlot (i : InputIx) (seq : Nat) : P (s.askSlot i seq).1 := by
  unfold State.askSlot
  split
  · exact h.fill s i _ seq hs
  · exact h.setFront s i _ hs

theorem captureStart (i : InputIx) : P (s.captureStart i).1 := by
  unfold State.captureStart
  simp only
  split
  · exact h.askSlot (h.setFront s i _ hs) i _
  · exact hs

theorem openFrame (i : InputIx) : P (s.openFrame i) := h.setFront _ i _ (h.captureStart hs i)

theorem frameStart (i : InputIx) : P (s.frameStart i) := by
  unfold State.frameStart
  split
  · exact h.openFrame (h.setFront _ i _ (h.abandonSlot hs i)) i
  · exact h.openFrame hs i

theorem startLoopedFrames (scr : ScreenIx) : P (s.startLoopedFrames scr) := by
  refine foldl_keeps (fun t i ht => ?_) (List.finRange 12) hs
  split
  · exact h.frameStart ht i
  · exact ht

omit hs in
/-- After what it sets, a wall reset does nothing but start frames. -/
theorem wallReset (hs : P s.wallClear) : P s.wallReset := by
  unfold State.wallReset
  exact foldl_keeps (P := P) (fun _ scr ht => h.startLoopedFrames ht scr) s.sleeping hs

end StartFree

/-- A frame start raises no event: both links stand. -/
theorem startFree_link (k : Link) (x : LinkState) : StartFree fun s => s.link k = x where
  setFront s i f h := (State.link_setFront s i f k).trans h
  fill s i _ _ h := (State.link_modRing s i _ k).trans h
  abandon s i _ h := (State.link_modRing s i _ k).trans h

/-- A ring operation that keeps newest-ready keeps it at every input. -/
theorem newest_modRing (s : State) (i j : InputIx) {g : Ring → Ring} (hg : ∀ r, (g r).newest = r.newest) :
    ((s.modRing j g).rings.get i).newest = (s.rings.get i).newest := (SamePictures.modRing s j hg).newest i

/-- A frame start publishes nothing (R104). -/
theorem startFree_newest (i : InputIx) (x : Option SlotIx) : StartFree fun s => (s.rings.get i).newest = x where
  setFront _ _ _ h := h
  fill s j n seq h := (newest_modRing s i j fun r => newest_fill r n seq).trans h
  abandon s j n h := (newest_modRing s i j fun r => newest_abandon r n).trans h

/-- No window reads a slot of the ring. -/
def Ring.Unread (r : Ring) : Prop := ∀ n, (r.slots.get n).readers = 0

/-- A slot written without readers leaves a ring unread. -/
theorem Ring.Unread.setSlot {r : Ring} (h : r.Unread) (n : SlotIx) {x : Slot} (hx : x.readers = 0) :
    Ring.Unread { r with slots := r.slots.set n x } := by
  intro m
  rw [Table.get_set]
  split
  · exact hx
  · exact h m

/-- A frame start gives no slot a reader (R103, R105). -/
theorem startFree_unread (i : InputIx) : StartFree fun s => (s.rings.get i).Unread := by
  have modRing (s : State) (j : InputIx) {g : Ring → Ring} (hg : ∀ r : Ring, r.Unread → (g r).Unread)
      (h : (s.rings.get i).Unread) : ((s.modRing j g).rings.get i).Unread := by
    rw [State.rings_modRing, Table.get_set]
    split
    · next e => exact hg _ (e ▸ h)
    · exact h
  exact ⟨fun _ _ _ h => h, fun s j n _ => modRing s j fun _ hr => hr.setSlot n rfl,
    fun s j n => modRing s j fun _ hr => hr.setSlot n rfl⟩

/-! ## What is set -/

theorem link_wallClear (s : State) (k : Link) : s.wallClear.link k = (s.link k).wallReset := by
  cases k <;> rfl

theorem link_wallReset (s : State) (k : Link) : s.wallReset.link k = (s.link k).wallReset :=
  (startFree_link k _).wallReset (link_wallClear s k)

theorem ring_wallClear (s : State) (i : InputIx) : s.wallClear.rings.get i = (s.rings.get i).dropReaders := Table.get_map _ _ _

theorem unread_dropReaders (r : Ring) : r.dropReaders.Unread := by
  intro n
  unfold Ring.dropReaders
  simp only [Table.get_tab]
  split <;> rfl

theorem unread_wallReset (s : State) (i : InputIx) : (s.wallReset.rings.get i).Unread :=
  (startFree_unread i).wallReset (by rw [ring_wallClear]; exact unread_dropReaders _)

theorem newest_wallReset (s : State) (i : InputIx) : (s.wallReset.rings.get i).newest = (s.rings.get i).newest :=
  (startFree_newest i _).wallReset (by rw [ring_wallClear]; rfl)

theorem timing_wallReset (x : Timing) : x.wallReset = if x = .stopped then .running 450000 450000 true else x := by
  cases x <;> rfl

/-- Of the latches WALL_RESET alone is set, and no index is gathered (R137, R172). -/
theorem latches_wallReset (x : LinkState) (j : Fin 12) : x.wallReset.events.latches.get j = decide (j = 11) := by
  simp only [LinkState.wallReset, EventState.latch, EventState.clearLatches, EventKind.ix, Table.get_set, Table.get_fill]
  split
  · next e => exact (decide_eq_true e.symm).symm
  · next e => exact (decide_eq_false fun h => e h.symm).symm

theorem sets_wallReset (x : LinkState) (j : Fin 12) : x.wallReset.events.sets.get j = 0 := Table.get_fill _ _

/-! ## The inputs looped from a screen that wakes (R92) -/

/-- When several screens begin a frame, an input takes the start of a frame where it is looped from one of them, and stands otherwise. -/
theorem startLoopedFrames_foldl (i : InputIx) (xs : List ScreenIx) (hd : xs.Nodup) (s : State) :
    AgreeOn i (xs.foldl (fun t scr => t.startLoopedFrames scr) s)
      (if ∃ scr ∈ xs, (s.fronts.get i).loop = some scr then s.frameStart i else s) := by
  induction xs generalizing s with
  | nil => simpa using AgreeOn.refl
  | cons a xs ih =>
    obtain ⟨hn, hd⟩ := List.nodup_cons.mp hd
    have first := State.startLoopedFrames_get s a i
    have rest := ih hd (s.startLoopedFrames a)
    rw [List.foldl_cons]
    by_cases e : (s.fronts.get i).loop = some a
    · rw [if_pos e] at first
      have hloop : ((s.startLoopedFrames a).fronts.get i).loop = some a := by
        rw [first.1, State.loop_frameStart, e]
      have others : ¬ ∃ scr ∈ xs, some a = some scr := by
        rintro ⟨scr, hm, he⟩
        exact hn (Option.some.inj he ▸ hm)
      rw [hloop, if_neg others] at rest
      rw [if_pos ⟨a, List.mem_cons_self, e⟩]
      exact rest.trans first
    · rw [if_neg e] at first
      rw [first.1] at rest
      simp only [List.exists_mem_cons_iff, e, false_or]
      split at rest
      · next h =>
        rw [if_pos h]
        exact rest.trans first.frameStart
      · next h =>
        rw [if_neg h]
        exact rest.trans first

theorem mem_sleeping {s : State} {scr : ScreenIx} : scr ∈ s.sleeping ↔ (s.comps.get scr).timing = .stopped := by
  simp [State.sleeping]

theorem nodup_sleeping (s : State) : s.sleeping.Nodup := (List.nodup_finRange 16).filter _

/-- An input looped from a screen in STANDBY takes the start of that screen's lead-in frame. -/
theorem wallReset_looped {s : State} {i : InputIx} {scr : ScreenIx} (hloop : (s.fronts.get i).loop = some scr)
    (hstop : (s.comps.get scr).timing = .stopped) : AgreeOn i s.wallReset (s.wallClear.frameStart i) := by
  have h := startLoopedFrames_foldl i s.sleeping (nodup_sleeping s) s.wallClear
  rwa [if_pos ⟨scr, mem_sleeping.mpr hstop, hloop⟩] at h

/-- Every other input keeps its front end, and its ring loses its readers alone. -/
theorem wallReset_unlooped {s : State} {i : InputIx}
    (hrun : ∀ scr, (s.fronts.get i).loop = some scr → (s.comps.get scr).timing ≠ .stopped) :
    AgreeOn i s.wallReset s.wallClear := by
  have h := startLoopedFrames_foldl i s.sleeping (nodup_sleeping s) s.wallClear
  rwa [if_neg fun ⟨scr, hm, hloop⟩ => hrun scr hloop (mem_sleeping.mp hm)] at h

/-! ## The request (R136, R162) -/

/-- The state in which a request is taken: its check byte has just arrived on link `l` (R163). -/
abbrev State.heard (s : State) (l : Link) : State := s.setLink l ((s.link l).arrived s.clock)

/-- The state after a WALL_RESET on link `l`: the check byte has arrived, the reset is done, and its ACK is queued. -/
def State.afterWallReset (s : State) (l : Link) (tag : Byte) : State :=
  (s.heard l).wallReset.ack l tag RequestKind.wallReset.code

theorem exec_wallReset {l : Link} (tag : Byte) {s : State} (hs : s.ready l) (hsenior : senior s.rank l.other = false) :
    exec (.wallReset l tag []) s = .next (s.afterWallReset l tag) := by
  have hrank : junior (s.heard l).rank l = false := by
    rw [State.rank_setLink]
    exact hsenior
  have h := exec_request_ready .wallReset tag (f := []) hs rfl
  simp only [State.takeKind, State.takeWallReset, hrank, Bool.false_eq_true, if_false] at h
  exact h

section AfterWallReset
variable (s : State) (l : Link) (tag : Byte)

theorem link_afterWallReset_self : (s.afterWallReset l tag).link l =
    ((s.link l).arrived s.clock).wallReset.enterReply (ackBody tag RequestKind.wallReset.code) := by
  rw [State.afterWallReset, State.ack, reply_eq, State.link_setLink_self, link_wallReset, State.link_setLink_self]

theorem link_afterWallReset_other : (s.afterWallReset l tag).link l.other = (s.link l.other).wallReset := by
  rw [State.afterWallReset, State.ack, reply_eq, State.link_setLink_other, link_wallReset, State.link_setLink_other]

/-- Beyond inputs and links the reset is what it sets: a frame start and the ACK change nothing there. -/
theorem afterWallReset_rest : ∃ fronts rings a b, s.afterWallReset l tag =
    { s.wallClear with fronts := fronts, rings := rings, linkA := a, linkB := b } := by
  have reset : ∃ fronts rings a b, (s.heard l).wallReset =
      { (s.heard l).wallClear with fronts := fronts, rings := rings, linkA := a, linkB := b } :=
    ⟨_, _, _, _, (wallReset_frame _).1⟩
  obtain ⟨fronts, rings, a, b, h⟩ := reset
  rw [State.afterWallReset, State.ack, reply_eq, h]
  cases l <;> exact ⟨_, _, _, _, rfl⟩

theorem eq_self_or_other (l k : Link) : k = l ∨ k = l.other := by
  cases l <;> cases k <;> decide

/-- On either link the reset is all that happens, but for the arrival of the check byte and the ACK. -/
theorem link_afterWallReset (k : Link) : ∃ arrival zero replies left, (s.afterWallReset l tag).link k =
    { (s.link k).wallReset with lastArrival := arrival, zero := zero, replies := replies, txLeft := left } := by
  rcases eq_self_or_other l k with rfl | rfl
  · exact ⟨_, _, _, _, link_afterWallReset_self s k tag⟩
  · exact ⟨_, _, _, _, link_afterWallReset_other s l tag⟩

/-- Of the inputs and the clock the arrival and the ACK change nothing. -/
theorem agreeOn_afterWallReset (i : InputIx) :
    AgreeOn i (s.afterWallReset l tag) (s.heard l).wallReset := by
  simp [State.afterWallReset, State.ack, reply_eq, AgreeOn]

end AfterWallReset

/-- What the inputs' part of a wall reset starts from: the readers are dropped, and the front ends and the clock stand (R102). -/
theorem agreeOn_wallClear {s t : State} {i : InputIx} (hf : s.fronts = t.fronts) (hc : s.clock = t.clock)
    (hr : (s.rings.get i).dropReaders = t.rings.get i) : AgreeOn i s.wallClear t :=
  ⟨congrArg (·.get i) hf, (ring_wallClear s i).trans hr, hc⟩

/-- Settles O10, item by item. -/
theorem wallResetSetsAndKeeps : Obligations.WallResetSetsAndKeeps := by
  intro l tag s hready hsenior freed
  obtain ⟨fronts, rings, a, b, rest⟩ := afterWallReset_rest s l tag
  have agrees (i : InputIx) : AgreeOn i (s.heard l).wallClear freed :=
    agreeOn_wallClear (State.fronts_setLink _ _ _) (State.clock_setLink _ _ _)
      (by rw [State.rings_setLink, Table.get_tab]; rfl)
  refine ⟨s.afterWallReset l tag, exec_wallReset tag hready hsenior, fun scr => ?screens, ?pool, fun scr => ?locks,
    fun z => ?zones, fun i n => ?slots, fun k => ?links, ?answered, ?silent, fun i hrun => ?unlooped,
    fun i scr hloop hstop => ?looped, ?marker, ?detector, ?rank, ?clock⟩
  case screens =>
    rw [rest]
    have hcomp : s.wallClear.comps.get scr = (s.comps.get scr).wallReset := Table.get_map _ _ _
    exact ⟨Table.get_fill _ _, by rw [hcomp]; exact ⟨rfl, rfl, plan_powerOn, timing_wallReset _⟩⟩
  case pool => rw [rest]; rfl
  case locks =>
    rw [rest]
    exact ⟨Table.get_fill _ _, Table.get_fill _ _⟩
  case zones =>
    rw [rest]
    have hzone : s.wallClear.zones.get z = (s.zones.get z).wallReset := Table.get_map _ _ _
    rw [hzone]
    exact ⟨rfl, rfl, rfl, rfl, rfl⟩
  case slots =>
    have h := (agreeOn_afterWallReset s l tag i).2.1
    rw [h]
    exact ⟨unread_wallReset (s.heard l) i n, by rw [newest_wallReset, State.rings_setLink]⟩
  case links =>
    obtain ⟨arrival, zero, replies, left, hk⟩ := link_afterWallReset s l tag k
    rw [hk]
    exact ⟨rfl, rfl, rfl, rfl, latches_wallReset _, sets_wallReset _, rfl, rfl, rfl, rfl, rfl, rfl, rfl, rfl⟩
  case answered => rw [link_afterWallReset_self]; rfl
  case silent => rw [link_afterWallReset_other]; rfl
  case unlooped =>
    have h : AgreeOn i (s.heard l).wallReset (s.heard l).wallClear := wallReset_unlooped (by simpa using hrun)
    obtain ⟨front, ring, -⟩ := ((agreeOn_afterWallReset s l tag i).trans h).trans (agrees i)
    exact ⟨front, ring⟩
  case looped =>
    have h : AgreeOn i (s.heard l).wallReset ((s.heard l).wallClear.frameStart i) :=
      wallReset_looped (by simpa using hloop) (by simpa using hstop)
    obtain ⟨front, ring, -⟩ := ((agreeOn_afterWallReset s l tag i).trans h).trans (agrees i).frameStart
    exact ⟨front, ring⟩
  all_goals rw [rest]; rfl

end Sys2Proof.Machine
end

section
/-! PROOF. Looped inputs: the rows and the ends of their screen's frames, and what the start and the end of a frame write (R60, R79, R81, R92). -/

namespace Sys2Proof.Machine

/-! ## Lines and frame ends of one input -/

section Frame
variable (i : InputIx) (s : State)

/-- A line outside a frame is disregarded (R81). -/
theorem activeLine_no_frame (pixels : List Colour) (h : (s.fronts.get i).frame = none) : s.activeLine i pixels = s := by
  simp [State.activeLine, h]

/-- A frame end outside a frame is disregarded (R81). -/
theorem frameEnd_no_frame (audio : Option (List Stereo)) (h : (s.fronts.get i).frame = none) : s.frameEnd i audio = s := by
  simp [State.frameEnd, h]

/-- No frame is in progress after a frame end. -/
theorem frame_frameEnd (audio : Option (List Stereo)) : ((s.frameEnd i audio).fronts.get i).frame = none := by
  unfold State.frameEnd
  simp only
  split
  · next h => exact h
  · split
    · simp [State.completeInvalid]
    · simp

theorem linesSoFar_of_frame {f : FrontEnd} {x : FrameInProgress} (h : f.frame = some x) : f.linesSoFar = x.lines := by
  simp [FrontEnd.linesSoFar, h]

/-- Time leaves the loop selection. -/
theorem loop_elapse (n : Nat) : ((s.elapse n).fronts.get i).loop = (s.fronts.get i).loop :=
  State.front_elapse_keeps n s FrontEnd.loop (fun _ _ _ => rfl) (fun _ => rfl) i

end Frame

/-! ## The commands of a looped input's connector -/

section Connector
variable {i : InputIx} {s : State} {scr : ScreenIx} (hloop : (s.fronts.get i).loop = some scr)
include hloop

/-- The connector's frame start lets its time pass alone (R92). -/
theorem exec_frameStart_looped (wait : Nat) : exec (.frameStart i wait) s = .next (s.elapse wait) := by
  have h : ((s.elapse wait).fronts.get i).loop ≠ none := by simp [loop_elapse, hloop]
  exact if_neg h

/-- An active line is the next row of the screen's output while rows are left (R92). -/
theorem exec_activeLine_looped (pixels : List Colour) :
    exec (.activeLine i pixels) s =
      .next (if (s.fronts.get i).linesSoFar < 1080 then
        s.activeLine i (s.outputLine scr (s.fronts.get i).linesSoFar) else s) := by
  simp only [exec, execActiveLine, hloop]
  exact (apply_ite Host.Outcome.next _ _ _).symm

/-- A frame end is taken once all the rows are (R92). -/
theorem exec_frameEnd_looped (audio : Option (List Stereo)) :
    exec (.frameEnd i audio) s = .next (if (s.fronts.get i).linesSoFar < 1080 then s else s.frameEnd i none) := by
  simp only [exec, execFrameEnd, hloop]
  exact (apply_ite Host.Outcome.next _ _ _).symm

/-- Outside a frame the connector's lines and frame ends change nothing. -/
theorem exec_looped_no_frame (pixels : List Colour) (audio : Option (List Stereo)) (h : (s.fronts.get i).frame = none) :
    exec (.activeLine i pixels) s = .next s ∧ exec (.frameEnd i audio) s = .next s := by
  rw [exec_activeLine_looped hloop, exec_frameEnd_looped hloop, activeLine_no_frame i s _ h, frameEnd_no_frame i s _ h]
  simp

end Connector

/-! ## The rows of the output (R60) -/

theorem length_outputLine (s : State) (scr : ScreenIx) (r : Nat) : (s.outputLine scr r).length = 1920 := by
  simp [State.outputLine, Config.canvasW]

theorem getElem?_outputLine (s : State) (scr : ScreenIx) (r : Nat) {c : Nat} (h : c < 1920) :
    (s.outputLine scr r)[c]? = some ((s.pixel scr c r).getD ⟨0, 0, 0⟩) := by
  simp [State.outputLine, Config.canvasW, h, Colour.black]

/-! ## The start and the end of a screen's frame -/

/-- What happens at inputs writes front ends, rings and links alone. -/
theorem OnlyInputs.rest {P : InputIx → Prop} {s t : State} (h : OnlyInputs P s t) :
    t = { s with fronts := t.fronts, rings := t.rings, linkA := t.linkA, linkB := t.linkB } := by
  have events := h.1
  unfold OnlyEvents at events
  rw [events]

/-- When it raises no event, the links stand too. -/
theorem OnlyInputs.rest_of_links {P : InputIx → Prop} {s t : State} (h : OnlyInputs P s t)
    (hl : ∀ k, t.link k = s.link k) : t = { s with fronts := t.fronts, rings := t.rings } := by
  have linkA : t.linkA = s.linkA := hl .a
  have linkB : t.linkB = s.linkB := hl .b
  rw [h.rest, linkA, linkB]

/-- The start of a screen's frame writes front ends and rings alone (R88). -/
theorem startLoopedFrames_rest (s : State) (scr : ScreenIx) :
    s.startLoopedFrames scr =
      { s with fronts := (s.startLoopedFrames scr).fronts, rings := (s.startLoopedFrames scr).rings } := by
  have links (k : Link) : (s.startLoopedFrames scr).link k = s.link k := (startFree_link k _).startLoopedFrames rfl scr
  exact (State.startLoopedFrames_frame s scr).rest_of_links links

/-- The end of a screen's frame writes front ends, rings and links alone (R92). -/
theorem endLoopedFrames_rest (s : State) (scr : ScreenIx) :
    s.endLoopedFrames scr =
      { s with
        fronts := (s.endLoopedFrames scr).fronts, rings := (s.endLoopedFrames scr).rings
        linkA := (s.endLoopedFrames scr).linkA, linkB := (s.endLoopedFrames scr).linkB } :=
  (State.endLoopedFrames_frame s scr).rest

/-- An input that is not looped from the screen stands when a frame of the screen begins and when it ends. -/
theorem loopedFrames_not_looped {s : State} {scr : ScreenIx} {i : InputIx} (h : (s.fronts.get i).loop ≠ some scr) :
    AgreeOn i (s.startLoopedFrames scr) s ∧ AgreeOn i (s.endLoopedFrames scr) s :=
  ⟨.ofOthers (State.startLoopedFrames_frame s scr) h, .ofOthers (State.endLoopedFrames_frame s scr) h⟩

section Looped
variable {s : State} {scr : ScreenIx} {i : InputIx}

/-- An input looped from the screen takes the start of its frame. -/
theorem startLoopedFrames_looped (h : (s.fronts.get i).loop = some scr) :
    AgreeOn i (s.startLoopedFrames scr) (s.frameStart i) := by
  simpa [h] using State.startLoopedFrames_get s scr i

/-- Outside a frame an input takes nothing of a frame's end. -/
theorem endLoopedFrames_no_frame (scr : ScreenIx) (hf : (s.fronts.get i).frame = none) :
    AgreeOn i (s.endLoopedFrames scr) s := by
  simpa [State.endLoopedFrame, hf] using State.endLoopedFrames_get s scr i

/-- In a frame an input looped from the screen takes the rows it has not taken, and the frame end. -/
theorem endLoopedFrames_in_frame (h : (s.fronts.get i).loop = some scr) {x : FrameInProgress}
    (hf : (s.fronts.get i).frame = some x) :
    AgreeOn i (s.endLoopedFrames scr)
      ((State.takeRows s scr i ((List.range 1080).drop x.lines) s).frameEnd i none) := by
  simpa [State.endLoopedFrame, State.loopedFrom, h, hf, FrontEnd.linesSoFar, Config.canvasH]
    using State.endLoopedFrames_get s scr i

end Looped

/-- Settles O38: the connector's commands, the rows of the output, and the start and the end of a frame at each input. -/
theorem loopedInputReceivesItsScreen : Obligations.LoopedInputReceivesItsScreen := by
  refine ⟨fun s i scr pixels audio wait hloop => ?connector,
    fun s scr r => ⟨length_outputLine s scr r, fun c hc => getElem?_outputLine s scr r hc⟩, fun s scr => ?walk⟩
  case connector =>
    refine ⟨exec_frameStart_looped hloop wait, fun x hx => ?_, exec_looped_no_frame hloop pixels audio⟩
    rw [exec_activeLine_looped hloop, exec_frameEnd_looped hloop, linesSoFar_of_frame hx]
    constructor
    · intro h
      simp [h]
    · intro h
      simp [Nat.not_lt.mpr h]
  case walk =>
    refine ⟨startLoopedFrames_rest s scr, (State.endLoopedFrames_frame s scr).link, endLoopedFrames_rest s scr, fun i =>
      ⟨fun h => ?other, fun h => ?looped⟩⟩
    case other =>
      obtain ⟨⟨beginFront, beginRing, -⟩, endFront, endRing, -⟩ := loopedFrames_not_looped h
      exact ⟨beginFront, beginRing, endFront, endRing⟩
    case looped =>
      obtain ⟨front, ring, -⟩ := startLoopedFrames_looped h
      refine ⟨front, ring, fun hf => ?_, fun x hx => ?_⟩
      · obtain ⟨front, ring, -⟩ := endLoopedFrames_no_frame scr hf
        exact ⟨front, ring⟩
      · obtain ⟨front, ring, -⟩ := endLoopedFrames_in_frame h hx
        exact ⟨front, ring, by rw [front, frame_frameEnd]⟩

end Sys2Proof.Machine
end

section
/-! PROOF. What a wake writes, and the admitted SET_SCREEN, which can wake its screen (R78, R92, R121 to R123). -/

namespace Sys2Proof.Machine

/-! ## A wake -/

/-- Of two writes to one place the second stands. -/
theorem table_set_set {α : Type} {n : Nat} (t : Table α n) (i : Fin n) (x y : α) : (t.set i x).set i y = t.set i y :=
  Table.ext_get fun j => by simp only [Table.get_set]; split <;> rfl

/-- A wake writes the compositor and begins a frame at the looped inputs (R78, R92). -/
theorem wake_eq (s : State) (scr : ScreenIx) :
    s.wake scr = (s.setComp scr (s.comps.get scr).awake).startLoopedFrames scr := by
  simp only [State.wake, State.startFrame, State.modComp, State.setComp, Table.get_set_self, table_set_set]
  rfl

/-- Where two parts agree on an input, they agree on it after the start of a screen's frame. -/
theorem AgreeOn.startLoopedFrames {i : InputIx} {s t : State} (h : AgreeOn i s t) (scr : ScreenIx) :
    AgreeOn i (s.startLoopedFrames scr) (t.startLoopedFrames scr) := by
  by_cases hl : (s.fronts.get i).loop = some scr
  · exact (startLoopedFrames_looped hl).trans (h.frameStart.trans (startLoopedFrames_looped (h.1 ▸ hl)).symm)
  · exact (loopedFrames_not_looped hl).1.trans (h.trans (loopedFrames_not_looped (h.1 ▸ hl)).1.symm)

/-- The start of a screen's frame has no part in the holds. -/
theorem setHold_startLoopedFrames (s : State) (scr k : ScreenIx) (x : Hold) :
    (s.startLoopedFrames scr).setHold k x = (s.setHold k x).startLoopedFrames scr := by
  have agrees (i : InputIx) : AgreeOn i (s.startLoopedFrames scr) ((s.setHold k x).startLoopedFrames scr) := by
    have same : AgreeOn i s (s.setHold k x) := ⟨rfl, rfl, rfl⟩
    exact same.startLoopedFrames scr
  have left := startLoopedFrames_rest s scr
  have right := startLoopedFrames_rest (s.setHold k x) scr
  generalize s.startLoopedFrames scr = t at agrees left ⊢
  generalize (s.setHold k x).startLoopedFrames scr = u at agrees right ⊢
  have fronts : t.fronts = u.fronts := Table.ext_get fun i => (agrees i).1
  have rings : t.rings = u.rings := Table.ext_get fun i => (agrees i).2.1
  rw [left, right, fronts, rings]
  rfl

/-! ## The write of a Staged record (R78, R121) -/

/-- The write of a record to a screen wakes it: it turns the Staged flag off on a screen in STANDBY. -/
def State.Wakes (s : State) (scr : ScreenIx) (r : ScreenRecord) : Prop :=
  (s.staged.get scr).settings.standby = true ∧ r.settings.standby = false ∧ (s.comps.get scr).run = .standby

theorem writeStaged_wakes {s : State} {scr : ScreenIx} {r : ScreenRecord} (h : s.Wakes scr r) :
    s.writeStaged scr r = ((s.setStaged scr r).setComp scr (s.comps.get scr).awake).startLoopedFrames scr :=
  (if_pos h).trans (wake_eq _ _)

theorem writeStaged_of_not_wakes {s : State} {scr : ScreenIx} {r : ScreenRecord} (h : ¬ s.Wakes scr r) :
    s.writeStaged scr r = s.setStaged scr r := if_neg h

/-! ## The taking of an edit (R118) -/

section AfterTaking
variable (s : State) (l : Link)

theorem takeEdit_eq_afterTaking : s.takeEdit l = s.afterTaking l := rfl

@[simp] theorem staged_afterTaking : (s.afterTaking l).staged = s.staged := State.staged_setLink s l _
@[simp] theorem comps_afterTaking : (s.afterTaking l).comps = s.comps := State.comps_setLink s l _
@[simp] theorem fronts_afterTaking : (s.afterTaking l).fronts = s.fronts := State.fronts_setLink s l _
@[simp] theorem pins_afterTaking : (s.afterTaking l).pins = s.pins := State.pins_setLink s l _
@[simp] theorem rank_afterTaking : (s.afterTaking l).rank = s.rank := State.rank_setLink s l _
@[simp] theorem holds_afterTaking : (s.afterTaking l).holds = s.holds := State.holds_setLink s l _

theorem wakes_afterTaking (scr : ScreenIx) (r : ScreenRecord) : (s.afterTaking l).Wakes scr r ↔ s.Wakes scr r := by
  simp [State.Wakes]

end AfterTaking

/-! ## The gate and SET_SCREEN -/

theorem pinStops_iff (s : State) (l : Link) (scr : ScreenIx) : s.pinStops l scr = true ↔ s.PinStops l scr := by
  simp [State.pinStops, State.PinStops]

/-- The gate admits an edit that neither a pin nor a hold stops (R122). -/
theorem gate_admits {s : State} {l : Link} {scr : ScreenIx} {hold : Bool} (hp : ¬ s.PinStops l scr)
    (hh : ¬ s.HoldStops l scr hold) : s.gate l scr hold = none := by
  have pin : ¬ s.pinStops l scr = true := mt (pinStops_iff s l scr).mp hp
  have held : ¬ (hold && (s.holds.get scr).holder == some l.other) = true := by simpa [State.HoldStops] using hh
  rw [State.gate, if_neg pin, if_neg held]

/-- An admitted screen edit writes the record and then the hold. -/
theorem screenEdit_admitted {s : State} {l : Link} (kind : EditKind) {hold : Bool} {scr : ScreenIx}
    (write : ScreenRecord → ScreenRecord) (h : s.gate l scr hold = none) :
    s.screenEdit l kind hold scr write =
      (s.writeStaged scr (write (s.staged.get scr))).setHold scr ((s.holds.get scr).afterEdit l hold) := by
  simp [State.screenEdit, h]

/-- Settles O18: past the gate, by whether the write wakes the screen. -/
theorem setScreenWritesSettingsAndWakes : Obligations.SetScreenWritesSettingsAndWakes := by
  intro s l hold scr x hp hh hchosen wakes written
  have admitted : (s.afterTaking l).gate l scr hold = none := (gate_takeEdit s l l scr hold).trans (gate_admits hp hh)
  have applied : exec .applySetScreen s =
      .next (((s.afterTaking l).writeStaged scr { s.staged.get scr with settings := x }).setHold scr
        ((s.holds.get scr).afterEdit l hold)) := by
    simp only [exec, execApplySetScreen, hchosen, takeEdit_eq_afterTaking, screenEdit_admitted _ _ admitted,
      staged_afterTaking, holds_afterTaking, ScreenRecord.setSettings]
  have written_eq : written = ((s.afterTaking l).setStaged scr { s.staged.get scr with settings := x }).setHold scr
      ((s.holds.get scr).afterEdit l hold) := by
    simp only [written, State.afterScreenEdit, State.setStaged, State.setHold, staged_afterTaking, holds_afterTaking]
    rfl
  have wakes_iff : (s.afterTaking l).Wakes scr { s.staged.get scr with settings := x } ↔ wakes := wakes_afterTaking s l _ _
  rw [applied]
  constructor
  · intro h
    rw [writeStaged_of_not_wakes (mt wakes_iff.mp h), written_eq]
  · intro h
    rw [writeStaged_wakes (wakes_iff.mpr h), setHold_startLoopedFrames, written_eq, comps_afterTaking]
    simp only [State.setComp, State.setHold, State.setStaged, comps_afterTaking]

end Sys2Proof.Machine
end

section
/-! PROOF. The walk of a GROUP over the screens of its set, and the refusal of those it skips (R78, R92, R125, R129, R130). -/

namespace Sys2Proof.Machine

/-! ## One screen of a GROUP -/

/-- What a GROUP does to a screen that passes the pin test. -/
def State.writeGroup (c : GroupChange) (s : State) (k : ScreenIx) : State :=
  s.writeStaged k ((s.staged.get k).groupChange c)

theorem groupEdit_eq (s : State) (l : Link) (screens : List ScreenIx) (c : GroupChange) :
    s.groupEdit l screens c =
      ((screens.filter fun k => !s.pinStops l k).foldl (State.writeGroup c) s).refuse l .group
        (screens.filter fun k => s.pinStops l k) .pinned := rfl

/-- The change wakes a screen of this Staged record and this compositor: STANDBY off, its flag on, and the screen in STANDBY (R78, R129). -/
def groupWakes (c : GroupChange) (r : ScreenRecord) (x : Compositor) : Bool :=
  decide (c = .standby false) && r.settings.standby && x.run == .standby

/-- A Staged record and a compositor after the change. -/
def groupWritten (c : GroupChange) (p : ScreenRecord × Compositor) : ScreenRecord × Compositor :=
  (p.1.groupChange c, if groupWakes c p.1 p.2 then p.2.awake else p.2)

/-- The Staged record and the compositor of a screen. -/
def State.screen (s : State) (k : ScreenIx) : ScreenRecord × Compositor := (s.staged.get k, s.comps.get k)

/-- The change wakes the screen in the state. -/
def State.groupWakes (c : GroupChange) (s : State) (k : ScreenIx) : Bool :=
  Machine.groupWakes c (s.screen k).1 (s.screen k).2

theorem groupWritten_screen (c : GroupChange) (s : State) (k : ScreenIx) :
    groupWritten c (s.screen k) =
      ((s.staged.get k).groupChange c, if s.groupWakes c k then (s.comps.get k).awake else s.comps.get k) := rfl

section One
variable (c : GroupChange) (s : State) (k : ScreenIx)

/-- Only a STANDBY off turns the Staged flag off. -/
theorem wakes_groupChange : s.Wakes k ((s.staged.get k).groupChange c) ↔ s.groupWakes c k = true := by
  unfold State.Wakes State.groupWakes groupWakes State.screen
  cases c with
  | main req => grind [ScreenRecord.groupChange]
  | standby on => grind [ScreenRecord.groupChange]
  | pattern p => grind [ScreenRecord.groupChange]

theorem writeGroup_wakes (h : s.groupWakes c k = true) :
    s.writeGroup c k =
      ((s.setStaged k ((s.staged.get k).groupChange c)).setComp k (s.comps.get k).awake).startLoopedFrames k :=
  writeStaged_wakes ((wakes_groupChange c s k).mpr h)

theorem writeGroup_of_not_wakes (h : s.groupWakes c k = false) :
    s.writeGroup c k = s.setStaged k ((s.staged.get k).groupChange c) :=
  writeStaged_of_not_wakes (mt (wakes_groupChange c s k).mp (by simp [h]))

/-- The screen written takes the change, and the other screens stand. -/
theorem screen_writeGroup (j : ScreenIx) :
    (s.writeGroup c k).screen j = if j = k then groupWritten c (s.screen j) else s.screen j := by
  have screen_startLoopedFrames (t : State) : (t.startLoopedFrames k).screen j = t.screen j := by
    unfold State.screen
    rw [(State.startLoopedFrames_frame t k).staged, (State.startLoopedFrames_frame t k).comps]
  by_cases e : j = k
  · subst e
    rw [if_pos rfl]
    cases h : s.groupWakes c j with
    | true =>
      rw [writeGroup_wakes c s j h, screen_startLoopedFrames, groupWritten_screen, if_pos h]
      simp [State.screen]
    | false =>
      rw [writeGroup_of_not_wakes c s j h, groupWritten_screen, if_neg (by simp [h])]
      simp [State.screen]
  · rw [if_neg e]
    cases h : s.groupWakes c k with
    | true =>
      rw [writeGroup_wakes c s k h, screen_startLoopedFrames]
      simp [State.screen, Table.get_set_of_ne _ _ (Ne.symm e)]
    | false =>
      rw [writeGroup_of_not_wakes c s k h]
      simp [State.screen, Table.get_set_of_ne _ _ (Ne.symm e)]

/-- At an input a screen's write is the start of its lead-in frame where it wakes, and nothing else (R92). -/
theorem agreeOn_writeGroup (i : InputIx) :
    AgreeOn i (s.writeGroup c k) (if s.groupWakes c k = true then s.startLoopedFrames k else s) := by
  split
  · next h =>
    rw [writeGroup_wakes c s k h]
    have same : AgreeOn i ((s.setStaged k ((s.staged.get k).groupChange c)).setComp k (s.comps.get k).awake) s :=
      ⟨rfl, rfl, rfl⟩
    exact same.startLoopedFrames k
  · next h =>
    rw [writeGroup_of_not_wakes c s k (by simpa using h)]
    exact ⟨rfl, rfl, rfl⟩

end One

/-- `t` is `s` but for the screens, the front ends and the rings. -/
def OnlyScreensAndInputs (s t : State) : Prop :=
  t = { s with staged := t.staged, comps := t.comps, fronts := t.fronts, rings := t.rings }

theorem OnlyScreensAndInputs.trans {s t u : State} (h : OnlyScreensAndInputs s t) (k : OnlyScreensAndInputs t u) :
    OnlyScreensAndInputs s u := by
  unfold OnlyScreensAndInputs at h k ⊢
  rw [k, h]

theorem startLoopedFrames_onlyScreensAndInputs (s : State) (scr : ScreenIx) :
    OnlyScreensAndInputs s (s.startLoopedFrames scr) := by
  have h := startLoopedFrames_rest s scr
  unfold OnlyScreensAndInputs
  generalize s.startLoopedFrames scr = t at h ⊢
  rw [h]

theorem writeGroup_onlyScreensAndInputs (c : GroupChange) (s : State) (k : ScreenIx) :
    OnlyScreensAndInputs s (s.writeGroup c k) := by
  cases h : s.groupWakes c k with
  | true =>
    rw [writeGroup_wakes c s k h]
    have written : OnlyScreensAndInputs s
        ((s.setStaged k ((s.staged.get k).groupChange c)).setComp k (s.comps.get k).awake) := rfl
    exact written.trans (startLoopedFrames_onlyScreensAndInputs _ k)
  | false =>
    rw [writeGroup_of_not_wakes c s k h]
    rfl

/-! ## The walk -/

/-- Where two parts agree on an input, they agree on it after the starts of the frames of several screens. -/
theorem AgreeOn.startLoopedFrames_foldl (ks : List ScreenIx) {i : InputIx} {s t : State} (h : AgreeOn i s t) :
    AgreeOn i (ks.foldl (fun t k => t.startLoopedFrames k) s) (ks.foldl (fun t k => t.startLoopedFrames k) t) := by
  induction ks generalizing s t with
  | nil => exact h
  | cons k ks ih =>
    rw [List.foldl_cons, List.foldl_cons]
    exact ih (h.startLoopedFrames k)

section Walk
variable (c : GroupChange) (xs : List ScreenIx)

theorem writeGroups_onlyScreensAndInputs (s : State) : OnlyScreensAndInputs s (xs.foldl (State.writeGroup c) s) :=
  foldl_keeps (P := OnlyScreensAndInputs s) (fun t k h => h.trans (writeGroup_onlyScreensAndInputs c t k)) xs rfl

/-- Each screen of the list takes the change once. -/
theorem screen_writeGroups (hd : xs.Nodup) (s : State) (k : ScreenIx) :
    (xs.foldl (State.writeGroup c) s).screen k = if k ∈ xs then groupWritten c (s.screen k) else s.screen k := by
  induction xs generalizing s with
  | nil => simp
  | cons a xs ih =>
    obtain ⟨hn, hd⟩ := List.nodup_cons.mp hd
    rw [List.foldl_cons, ih hd, screen_writeGroup]
    by_cases e : k = a
    · subst e
      simp [hn]
    · simp [e]

/-- At an input the walk is the starts of the lead-in frames of the screens that wake (R92). -/
theorem agreeOn_writeGroups (i : InputIx) (hd : xs.Nodup) (s : State) :
    AgreeOn i (xs.foldl (State.writeGroup c) s)
      ((xs.filter (s.groupWakes c)).foldl (fun t k => t.startLoopedFrames k) s) := by
  induction xs generalizing s with
  | nil =>
    rw [List.filter_nil, List.foldl_nil, List.foldl_nil]
    exact AgreeOn.refl
  | cons a xs ih =>
    obtain ⟨hn, hd⟩ := List.nodup_cons.mp hd
    have later : xs.filter ((s.writeGroup c a).groupWakes c) = xs.filter (s.groupWakes c) := by
      refine List.filter_congr fun k hk => ?_
      have e : k ≠ a := fun e => hn (e ▸ hk)
      rw [State.groupWakes, State.groupWakes, screen_writeGroup, if_neg e]
    have rest := ih hd (s.writeGroup c a)
    have first := agreeOn_writeGroup c s a i
    rw [later] at rest
    rw [List.foldl_cons, List.filter_cons]
    split
    · next h =>
      rw [if_pos h] at first
      rw [List.foldl_cons]
      exact rest.trans (first.startLoopedFrames_foldl _)
    · next h =>
      rw [if_neg h] at first
      exact rest.trans (first.startLoopedFrames_foldl _)

/-- An input looped from a screen of the list that wakes takes one frame start, and every other input stands. -/
theorem writeGroups_input (i : InputIx) (hd : xs.Nodup) (s : State) :
    AgreeOn i (xs.foldl (State.writeGroup c) s)
      (if ∃ k ∈ xs.filter (s.groupWakes c), (s.fronts.get i).loop = some k then s.frameStart i else s) :=
  (agreeOn_writeGroups c xs i hd s).trans (startLoopedFrames_foldl i _ (hd.filter _) s)

end Walk

/-! ## The refusal of the skipped screens (R125, R130) -/

section Refusal
variable (s : State) (l : Link) (kind : EditKind) (screens : List ScreenIx) (reason : RefusalReason)

theorem staged_refuse : (s.refuse l kind screens reason).staged = s.staged := by
  rw [refuse_frame, State.staged_setLink]

theorem comps_refuse : (s.refuse l kind screens reason).comps = s.comps := by
  rw [refuse_frame, State.comps_setLink]

theorem fronts_refuse : (s.refuse l kind screens reason).fronts = s.fronts := by
  rw [refuse_frame, State.fronts_setLink]

theorem rings_refuse : (s.refuse l kind screens reason).rings = s.rings := by
  rw [refuse_frame, State.rings_setLink]

theorem link_refuse_other : (s.refuse l kind screens reason).link l.other = s.link l.other := by
  rw [refuse_frame, State.link_setLink_other]

/-- The record takes the first screen when it is empty, the count rises by one for each, and EDIT_REFUSED is latched once. -/
theorem link_refuse_cons (first : ScreenIx) (rest : List ScreenIx) :
    (s.refuse l kind (first :: rest) reason).link l =
      { s.link l with
        record := some ((s.link l).record.getD { kind := kind.code, screen := first, reason := reason })
        refusals := min 255 ((s.link l).refusals + (rest.length + 1))
        events := (s.link l).events.latch .editRefused none } := by
  simp only [State.refuse, State.raise, State.link_modLink_self, LinkState.recordRefusals]
  cases (s.link l).record <;> rfl

theorem OnlyScreensAndInputs.link {s t : State} (h : OnlyScreensAndInputs s t) (k : Link) : t.link k = s.link k := by
  unfold OnlyScreensAndInputs at h
  rw [h]
  cases k <;> rfl

/-- A refusal after writes to screens and inputs leaves the rest of the part. -/
theorem OnlyScreensAndInputs.refuse {s t : State} (h : OnlyScreensAndInputs s t) :
    t.refuse l kind screens reason =
      { s with
        staged := (t.refuse l kind screens reason).staged, comps := (t.refuse l kind screens reason).comps
        fronts := (t.refuse l kind screens reason).fronts, rings := (t.refuse l kind screens reason).rings
        linkA := (t.refuse l kind screens reason).linkA, linkB := (t.refuse l kind screens reason).linkB } := by
  have frame := refuse_frame t l kind screens reason
  generalize t.refuse l kind screens reason = u at frame ⊢
  unfold OnlyScreensAndInputs at h
  rw [frame, h]
  cases l <;> rfl

end Refusal

/-! ## GROUP -/

/-- A GROUP writes the screens of its set that pass the pin test and refuses the others, both in ascending order (R129, R130). -/
theorem exec_applyGroup {s : State} {l : Link} {base limit : ScreenIx} {invert : Bool} {c : GroupChange}
    (h : s.chosen = some (l, .group base limit invert c)) :
    exec .applyGroup s =
      .next ((((groupScreens base limit invert).filter fun k => !s.pinStops l k).foldl (State.writeGroup c)
        (s.afterTaking l)).refuse l .group ((groupScreens base limit invert).filter fun k => s.pinStops l k) .pinned) := by
  have pins (k : ScreenIx) : (s.afterTaking l).pinStops l k = s.pinStops l k := by
    simp only [State.pinStops, pins_afterTaking, rank_afterTaking]
  simp only [exec, execApplyGroup, h, takeEdit_eq_afterTaking, groupEdit_eq, pins]

theorem link_afterTaking (s : State) (l : Link) : (s.afterTaking l).link l = (s.link l).afterApplication := by
  cases l <;> rfl

theorem link_afterTaking_other (s : State) (l : Link) : (s.afterTaking l).link l.other = s.link l.other := by
  cases l <;> rfl

theorem agreeOn_afterTaking (s : State) (l : Link) (i : InputIx) : AgreeOn i (s.afterTaking l) s := by
  cases l <;> exact ⟨rfl, rfl, rfl⟩

theorem screen_afterTaking (s : State) (l : Link) (k : ScreenIx) : (s.afterTaking l).screen k = s.screen k := by
  cases l <;> rfl

/-- Settles O22: the walk over the screens that pass the pin test, and then the refusal of the others. -/
theorem groupWritesTheUnpinnedScreens : Obligations.GroupWritesTheUnpinnedScreens := by
  intro s l base limit invert c hchosen inSet stops skipped wakes
  let admitted := (groupScreens base limit invert).filter fun k => !s.pinStops l k
  have skipped_eq : (groupScreens base limit invert).filter (fun k => s.pinStops l k) = skipped := by
    simp only [groupScreens, List.filter_filter, skipped]
    exact List.filter_congr fun k _ => Bool.and_comm _ _
  have mem_admitted (k : ScreenIx) : k ∈ admitted ↔ (inSet k && !stops k) = true := by
    simp only [admitted, groupScreens, List.mem_filter, List.mem_finRange, true_and, Bool.and_eq_true]
    rfl
  have nodup : admitted.Nodup := ((List.nodup_finRange 16).filter _).filter _
  have wakes_iff (k : ScreenIx) : wakes k = true ↔ k ∈ admitted ∧ s.groupWakes c k = true := by
    simp only [mem_admitted, wakes, State.groupWakes, groupWakes, State.screen, Bool.and_eq_true, and_assoc]
  have applied := exec_applyGroup hchosen
  rw [skipped_eq] at applied
  have walked := writeGroups_onlyScreensAndInputs c admitted (s.afterTaking l)
  have screens (k : ScreenIx) := screen_writeGroups c admitted nodup (s.afterTaking l) k
  have woken (i : InputIx) :
      (∃ k ∈ admitted.filter ((s.afterTaking l).groupWakes c), ((s.afterTaking l).fronts.get i).loop = some k) ↔
        ∃ k, wakes k = true ∧ (s.fronts.get i).loop = some k := by
    simp only [List.mem_filter, State.groupWakes, screen_afterTaking, fronts_afterTaking, wakes_iff]
  have inputs (i : InputIx) := writeGroups_input c admitted i nodup (s.afterTaking l)
  simp only [woken] at inputs
  generalize admitted.foldl (State.writeGroup c) (s.afterTaking l) = u at applied walked screens inputs
  simp only [screen_afterTaking] at screens
  refine ⟨u.refuse l .group skipped .pinned, applied, walked.refuse l .group skipped .pinned, fun k => ?staged,
    fun k => ?comps, fun i hi => ?unlooped, fun i k hk hw => ?looped, ?other, fun hnone => ?none,
    fun first rest hsome => ?some⟩
  case staged =>
    have h : u.staged.get k = _ := congrArg Prod.fst (screens k)
    rw [staged_refuse, h]
    by_cases hk : k ∈ admitted
    · rw [if_pos hk, if_pos ((mem_admitted k).mp hk)]
      cases c <;> rfl
    · rw [if_neg hk, if_neg (mt (mem_admitted k).mpr hk)]
      rfl
  case comps =>
    have h : u.comps.get k = _ := congrArg Prod.snd (screens k)
    rw [comps_refuse, h]
    by_cases hk : k ∈ admitted
    · rw [if_pos hk, groupWritten_screen]
      simp only [wakes_iff, hk, true_and]
    · rw [if_neg hk, if_neg (mt (wakes_iff k).mp fun w => hk w.1)]
      rfl
  case unlooped =>
    have h := inputs i
    rw [if_neg fun ⟨k, hw, hk⟩ => by simp [hi k hk] at hw] at h
    obtain ⟨front, ring, -⟩ := h.trans (agreeOn_afterTaking s l i)
    exact ⟨by rw [fronts_refuse, front], by rw [rings_refuse, ring]⟩
  case looped =>
    have h := inputs i
    rw [if_pos ⟨k, hw, hk⟩] at h
    obtain ⟨front, ring, -⟩ := h.trans (agreeOn_afterTaking s l i).frameStart
    exact ⟨by rw [fronts_refuse, front], by rw [rings_refuse, ring]⟩
  case other => rw [link_refuse_other, walked.link, link_afterTaking_other]
  case none =>
    rw [hnone, State.refuse, walked.link, link_afterTaking]
  case some =>
    rw [hsome, link_refuse_cons, walked.link, link_afterTaking]
    rfl

end Sys2Proof.Machine
end

section
/-! PROOF. The empty queue, the passing of time, and the ends of pins and holds (R57, R59, R85, R86, R90, R97, R124, R126, R128, R148, R156, R161). -/

namespace Sys2Proof.Machine

/-! ## What is due -/

/-- A slate's hold timer that counts has come to 0 (R90). -/
theorem holdTimer_over_iff (x : HoldTimer) : x.over = true ↔ x = .running 0 := by
  cases x <;> simp [HoldTimer.over]

/-- A frame in progress, or the longest wait for the first one, has come to its end (R57, R59). -/
theorem timing_over_iff (x : Timing) :
    x.over = true ↔ x = .starting 0 ∨ ∃ period leadIn, x = .running period 0 leadIn := by
  cases x <;> simp [Timing.over]

/-- The frame in transmission is over when what is left of all that is being sent is that of the frames behind it (R156). -/
theorem headLeft_eq_zero_iff {x : LinkState} {body : List Byte} {rest : List (List Byte)} (h : x.replies = body :: rest) :
    x.headLeft = 0 ↔ x.txLeft ≤ (rest.map fun b => (b.length + 3) * charUnits x.rate).sum := by
  rw [LinkState.headLeft, h, List.tail_cons, Nat.sub_eq_zero_iff_le]
  rfl

theorem gapPassed_iff (s : State) (l : Link) :
    s.gapPassed l = true ↔ ∃ last, (s.link l).lastArrival = some last ∧ last + gapLimit (s.link l).rate ≤ s.clock := by
  unfold State.gapPassed
  split
  · next h => simp [h]
  · next h => simp [h]

section Due
variable (s : State)

theorem due_holdExpired (scr : ScreenIx) :
    s.due (.holdExpired scr) = true ↔ (s.holds.get scr).holder ≠ none ∧ (s.holds.get scr).ms = 0 := by
  simp [State.due, Option.isSome_iff_ne_none]

theorem due_slateHoldExpiry (i : InputIx) :
    s.due (.slateHoldExpiry i) = true ↔ (s.fronts.get i).slateTimer = .running 0 :=
  holdTimer_over_iff _

theorem due_acquisitionTimerExpiry (i : InputIx) :
    s.due (.acquisitionTimerExpiry i) = true ↔ (s.fronts.get i).acqTimer = some 0 := by
  simp [State.due]

theorem due_missIntervalExpiry (i : InputIx) :
    s.due (.missIntervalExpiry i) = true ↔ (s.fronts.get i).missLeft = some 0 := by
  simp [State.due]

theorem due_transmissionEnd (l : Link) :
    s.due (.transmissionEnd l) = true ↔ ∃ body rest, (s.link l).replies = body :: rest ∧
      (s.link l).txLeft ≤ (rest.map fun b => (b.length + 3) * charUnits (s.link l).rate).sum := by
  cases h : (s.link l).replies with
  | nil => simp [State.due, h]
  | cons body rest => simp [State.due, h, headLeft_eq_zero_iff h]

theorem due_interByteTimeout (l : Link) :
    s.due (.interByteTimeout l) = true ↔ (s.link l).parser.phase.inFrame = true ∧
      ∃ last, (s.link l).lastArrival = some last ∧ last + gapLimit (s.link l).rate ≤ s.clock := by
  rw [← gapPassed_iff, State.due, Bool.and_eq_true]

theorem due_boundary (scr : ScreenIx) :
    s.due (.boundary scr) = true ↔ (s.comps.get scr).timing = .starting 0 ∨
      ∃ period leadIn, (s.comps.get scr).timing = .running period 0 leadIn :=
  timing_over_iff _

end Due

/-! ## What time leaves alone -/

/-- A tick leaves all but pins, counters and event states, and so does any number of them. -/
theorem secondTicks_rest (k : Nat) (s : State) :
    State.secondTicks k s =
      { s with
        pins := (State.secondTicks k s).pins, fronts := (State.secondTicks k s).fronts
        linkA := (State.secondTicks k s).linkA, linkB := (State.secondTicks k s).linkB } := by
  induction k generalizing s with
  | zero => rfl
  | succ k ih =>
    have first := State.secondTick_frame s
    have later := ih s.secondTick
    rw [show State.secondTicks (k + 1) s = State.secondTicks k s.secondTick from rfl]
    generalize State.secondTicks k s.secondTick = u at later ⊢
    generalize s.secondTick = t at first later
    rw [later, first]

theorem elapse_rest (n : Nat) (s : State) :
    s.elapse n =
      { s with
        clock := s.clock + n, comps := (s.elapse n).comps, fronts := (s.elapse n).fronts, pins := (s.elapse n).pins
        holds := (s.elapse n).holds, linkA := (s.elapse n).linkA, linkB := (s.elapse n).linkB } := by
  have h := secondTicks_rest (s.secondsIn n) (s.pass n)
  unfold State.elapse
  generalize State.secondTicks (s.secondsIn n) (s.pass n) = t at h ⊢
  rw [h]
  rfl

theorem hold_elapse (n : Nat) (s : State) (scr : ScreenIx) :
    (s.elapse n).holds.get scr =
      { s.holds.get scr with ms := (s.holds.get scr).ms - ((s.clock + n) / 27000 - s.clock / 27000) } := by
  rw [State.holds_elapse, State.pass, Table.get_map]
  rfl

/-- A time without a one-second tick leaves counters, pins and event states (R97, R128). -/
theorem elapse_within_second {n : Nat} {s : State} (h : (s.clock + n) / 27000000 = s.clock / 27000000) :
    s.elapse n = s.pass n := by
  refine State.elapse_no_tick ?_
  rw [State.secondsIn, Config.secondPeriods, h, Nat.sub_self]

/-! ## Time to a tick -/

section Ticks
variable {unit : Nat} (hu : 0 < unit) (clock : Nat) {k : Nat}
include hu

/-- The `k`-th tick from now falls at a multiple of the unit. -/
theorem clock_add_periodsToTick (hk : 0 < k) : clock + periodsToTick unit clock k = (clock / unit + k) * unit := by
  obtain ⟨m, rfl⟩ : ∃ m, k = m + 1 := ⟨k - 1, by omega⟩
  have now := Nat.div_add_mod clock unit
  have part := Nat.mod_lt clock hu
  rw [periodsToTick, if_neg (Nat.succ_ne_zero m), Nat.add_sub_cancel, Nat.add_mul, Nat.add_mul, Nat.one_mul,
    Nat.mul_comm (clock / unit)]
  omega

/-- Exactly `k` ticks lie in the time to the `k`-th. -/
theorem ticks_periodsToTick : (clock + periodsToTick unit clock k) / unit - clock / unit = k := by
  rcases Nat.eq_zero_or_pos k with rfl | hk
  · simp [periodsToTick]
  · rw [clock_add_periodsToTick hu clock hk, Nat.mul_div_cancel _ hu]
    omega

/-- Fewer lie in any shorter time. -/
theorem ticks_before {n : Nat} (h : n < periodsToTick unit clock k) : (clock + n) / unit - clock / unit < k := by
  have hk : 0 < k := by
    rcases Nat.eq_zero_or_pos k with rfl | hk
    · simp [periodsToTick] at h
    · exact hk
  have tick := clock_add_periodsToTick hu clock hk
  have before : (clock + n) / unit < clock / unit + k := (Nat.div_lt_iff_lt_mul hu).mpr (by omega)
  omega

end Ticks

/-! ## Pins under one-second ticks (R128) -/

theorem secondTicks_succ (k : Nat) (s : State) : State.secondTicks (k + 1) s = (State.secondTicks k s).secondTick := by
  induction k generalizing s with
  | zero => rfl
  | succ k ih => exact ih s.secondTick

/-- A pin whose timer still runs after so many ticks has its owner, and the timer is lower by as many. -/
theorem pin_secondTicks (k : Nat) (s : State) (scr : ScreenIx) (h : k < (s.pins.get scr).lapse) :
    (State.secondTicks k s).pins.get scr = { s.pins.get scr with lapse := (s.pins.get scr).lapse - k } := by
  induction k generalizing s with
  | zero => rfl
  | succ k ih =>
    have tick : s.secondTick.pins.get scr = { s.pins.get scr with lapse := (s.pins.get scr).lapse - 1 } := by
      rw [State.pins_secondTick, Table.get_map, Pin.tick, if_neg (by omega), if_neg (by omega)]
    have later := ih s.secondTick (by rw [tick]; exact Nat.lt_sub_of_add_lt h)
    rw [tick, Nat.sub_sub, Nat.add_comm 1 k] at later
    exact later

/-- The events of a link show that a kind has been raised for a thing. -/
def EventState.Shows (e : EventState) (k : EventKind) (n : Nat) : Prop :=
  e.latches.get k.ix = true ∧ (e.sets.get k.ix).getLsbD n = true

/-- A raise for one of sixteen things shows (R172). -/
theorem shows_latch (e : EventState) (k : EventKind) {n : Nat} (h : n < 16) : (e.latch k (some n)).Shows k n := by
  refine ⟨latch_set e k _, ?_⟩
  simp [EventState.latch, h]

/-- Another raise hides nothing (R172). -/
theorem EventState.Shows.latch {e : EventState} {k : EventKind} {n : Nat} (h : e.Shows k n) (j : EventKind)
    (index : Option Nat) : (e.latch j index).Shows k n := by
  obtain ⟨latched, member⟩ := h
  constructor
  · simp only [EventState.latch, Table.get_set]
    split
    · rfl
    · exact latched
  · cases index with
    | none => exact member
    | some m =>
      simp only [EventState.latch, Table.get_modify]
      split
      · simp [member]
      · exact member

/-- A lapse shows on the link that owned the pin (R128). -/
theorem shows_raiseLapse {pins : Table Pin 16} {scr : ScreenIx} {l : Link} (h : (pins.get scr).lapses = some l) (s : State) :
    ((s.raiseLapse pins scr).link l).events.Shows .pinLapsed scr.val := by
  rw [State.raiseLapse, h]
  simp only [State.raise, State.link_modLink_self]
  exact shows_latch _ _ scr.isLt

theorem shows_raiseLapse_of {pins : Table Pin 16} {l : Link} {k : EventKind} {n : Nat} (s : State) (j : ScreenIx)
    (h : (s.link l).events.Shows k n) : ((s.raiseLapse pins j).link l).events.Shows k n := by
  unfold State.raiseLapse
  split
  · rw [State.raise, State.link_modLink]
    split
    · exact h.latch _ _
    · exact h
  · exact h

/-- The tick at which a pin's timer is at its last second releases the pin and shows the lapse on its owner. -/
theorem secondTick_lapse {s : State} {scr : ScreenIx} {l : Link} (howner : (s.pins.get scr).owner = some l)
    (hlapse : (s.pins.get scr).lapse = 1) :
    s.secondTick.pins.get scr = .clear ∧ (s.secondTick.link l).events.Shows .pinLapsed scr.val := by
  constructor
  · rw [State.pins_secondTick, Table.get_map, Pin.tick, if_neg (by omega), if_pos hlapse]
  · have lapses : (s.pins.get scr).lapses = some l := by rw [Pin.lapses, if_pos hlapse, howner]
    obtain ⟨before, after, hsplit⟩ := List.append_of_mem (List.mem_finRange scr)
    rw [State.secondTick, hsplit, List.foldl_append, List.foldl_cons]
    exact foldl_keeps (P := fun t : State => (t.link l).events.Shows .pinLapsed scr.val)
      (fun t j => shows_raiseLapse_of t j) after (shows_raiseLapse lapses _)

/-! ## PIN_LAPSED (R128) -/

section Lapse
variable {s : State} {scr : ScreenIx}

/-- A screen without a pin, and a pin without a lapse, do not lapse. -/
theorem exec_pinLapsed_idle (h : (s.pins.get scr).owner = none ∨ (s.pins.get scr).lapse = 0) :
    exec (.pinLapsed scr) s = .next s := by
  simp only [exec, execPinLapsed]
  split
  · rfl
  · next howned =>
    have hlapse : (s.pins.get scr).lapse = 0 := h.resolve_left howned
    rw [State.toPinLapse, hlapse, periodsToTick, if_pos rfl, State.elapse_zero]

theorem exec_pinLapsed_owned {l : Link} (howner : (s.pins.get scr).owner = some l) :
    exec (.pinLapsed scr) s = .next (s.elapse (s.toPinLapse scr)) := by
  simp [exec, execPinLapsed, howner]

theorem secondsIn_toPinLapse (s : State) (scr : ScreenIx) : s.secondsIn (s.toPinLapse scr) = (s.pins.get scr).lapse :=
  ticks_periodsToTick (by decide) s.clock

/-- The time to the lapse is that to as many one-second ticks as the timer still has to count. -/
theorem toPinLapse_eq {m : Nat} (hlapse : (s.pins.get scr).lapse = m + 1) :
    s.toPinLapse scr = (s.clock / 27000000 + 1 + m) * 27000000 - s.clock := by
  have tick := clock_add_periodsToTick (unit := 27000000) (k := m + 1) (by decide) s.clock (Nat.succ_pos m)
  rw [State.toPinLapse, hlapse, Config.secondPeriods]
  omega

/-- Until then the pin has its owner. -/
theorem owner_before_lapse {k : Nat} (h : k < s.toPinLapse scr) :
    ((s.elapse k).pins.get scr).owner = (s.pins.get scr).owner := by
  have running : s.secondsIn k < ((s.pass k).pins.get scr).lapse := ticks_before (by decide) s.clock h
  rw [State.elapse, pin_secondTicks _ _ _ running, State.pins_pass]

/-- Then it is released, and the lapse shows on its owner. -/
theorem elapse_toPinLapse {l : Link} {m : Nat} (howner : (s.pins.get scr).owner = some l)
    (hlapse : (s.pins.get scr).lapse = m + 1) :
    (s.elapse (s.toPinLapse scr)).pins.get scr = .clear ∧
      ((s.elapse (s.toPinLapse scr)).link l).events.Shows .pinLapsed scr.val := by
  have last := pin_secondTicks m (s.pass (s.toPinLapse scr)) scr (by rw [State.pins_pass, hlapse]; exact Nat.lt_succ_self m)
  rw [State.elapse, secondsIn_toPinLapse, hlapse, secondTicks_succ]
  exact secondTick_lapse (by rw [last, State.pins_pass, howner]) (by simp [last, hlapse])

end Lapse

/-! ## HOLD_EXPIRED (R124) -/

/-- The time to the end of a hold brings its timer to 0. -/
theorem ms_toHoldExpiry (s : State) (scr : ScreenIx) : ((s.elapse (s.toHoldExpiry scr)).holds.get scr).ms = 0 := by
  have ticks : (s.clock + s.toHoldExpiry scr) / 27000 - s.clock / 27000 = (s.holds.get scr).ms :=
    ticks_periodsToTick (by decide) s.clock
  rw [hold_elapse, ticks]
  exact Nat.sub_self _

/-- The hold is removed, and its holder gets HOLD_EXPIRED. -/
theorem exec_holdExpired {s : State} {scr : ScreenIx} {l : Link} (h : (s.holds.get scr).holder = some l) :
    let u := s.elapse (s.toHoldExpiry scr)
    exec (.holdExpired scr) s =
      .next ((u.setHold scr .clear).setLink l
        { u.link l with events := (u.link l).events.latch .holdExpired (some scr.val) }) := by
  intro u
  have holder : (u.holds.get scr).holder = some l := by rw [State.holder_elapse, h]
  simp only [exec, execHoldExpired, h, reduceCtorEq, if_false, State.expireHold]
  rw [holder]
  simp only [State.raise, State.modLink, State.link_setHold]
  rfl

/-- Settles O29: the empty queue, what is due, what time does to each part, and the ends of pins and holds. -/
theorem lapseAndExpiryRelease : Obligations.LapseAndExpiryRelease := by
  refine ⟨fun s hempty => ?idle, fun s scr i l => ?due, fun s n => ?time, fun s scr l => ?ends⟩
  case idle =>
    intro order
    rw [step_of_empty s hempty]
    exact ⟨fun before e after horder he hbefore => idle_of_due s horder he hbefore, idle_of_none s⟩
  case due =>
    exact ⟨due_holdExpired s scr, due_slateHoldExpiry s i, due_acquisitionTimerExpiry s i, due_missIntervalExpiry s i,
      due_transmissionEnd s l, due_interByteTimeout s l, Iff.rfl, due_boundary s scr⟩
  case time =>
    refine ⟨elapse_rest n s, hold_elapse n s, State.comp_elapse n s, State.link_elapse n s,
      fun i => ⟨?_, fun hsecond => ?_⟩, fun hsecond => ?_⟩
    · refine (State.front_elapse n s i).trans ?_
      simp only [FrontEnd.elapse]
      cases (s.fronts.get i).slateTimer <;> rfl
    · rw [elapse_within_second hsecond, State.pass, Table.get_map]
      exact ⟨rfl, rfl, rfl, rfl⟩
    · rw [elapse_within_second hsecond]
      exact ⟨rfl, fun l => by rw [State.link_pass]; rfl⟩
  case ends =>
    refine ⟨exec_pinLapsed_idle, fun m howner hlapse => ?pin,
      fun hholder => ⟨ms_toHoldExpiry s scr, exec_holdExpired hholder⟩⟩
    case pin =>
      intro n u
      have time : s.toPinLapse scr = n := toPinLapse_eq hlapse
      obtain ⟨released, latched, member⟩ := elapse_toPinLapse howner hlapse
      have owned (k : Nat) (hk : k < n) : ((s.elapse k).pins.get scr).owner = some l :=
        (owner_before_lapse (time ▸ hk)).trans howner
      rw [time] at released latched member
      have applied := exec_pinLapsed_owned howner
      rw [time] at applied
      exact ⟨applied, State.clock_elapse n s, released, latched, member, owned⟩

end Sys2Proof.Machine
end

section
/-! PROOF. What each event of an input does to its front end, its ring and the links, said once (R81 to R98). -/

namespace Sys2Proof.Machine

/-! ## Events raised on the links (R172, R173) -/

/-- An event state after a raise that the edge mode admits or not. -/
def EventState.latchIf (e : EventState) (admitted : Bool) (kind : EventKind) (index : Option Nat) : EventState :=
  if admitted then e.latch kind index else e

/-- Every edge mode admits a loss (R173). -/
theorem admits_true (m : LossMode) : m.admits true = true := by cases m <;> rfl

section Raised
variable (s : State) (i : InputIx) (k : Link)

/-- A raise to one link, made where its edge mode admits it, is seen on that link alone. -/
theorem link_raiseIf (l : Link) (admitted : Bool) (kind : EventKind) (index : Option Nat) :
    (if admitted then s.raise l kind index else s).link k =
      if l = k then { s.link k with events := (s.link k).events.latchIf admitted kind index } else s.link k := by
  cases admitted
  · simp [EventState.latchIf]
  · exact State.link_modLink s l k fun x => { x with events := x.events.latch kind index }

/-- An event raised to both links is latched on each. -/
theorem link_raiseBoth (kind : EventKind) (index : Option Nat) :
    (s.raiseBoth kind index).link k = { s.link k with events := (s.link k).events.latch kind index } := by
  cases k <;> rfl

/-- INPUT_STATE is latched on the links whose edge mode admits it. -/
theorem link_raiseInputState (now : MonitorState) :
    (s.raiseInputState i now).link k =
      { s.link k with
        events := (s.link k).events.latchIf ((s.link k).events.inputMode.admits (now == .lost)) .inputState (some i.val) } := by
  have one (t : State) (l k : Link) := link_raiseIf t k l (((t.link l).events.inputMode).admits (now == .lost)) .inputState
    (some i.val)
  unfold State.raiseInputState State.raiseInputStateOn
  rw [one, one, one]
  cases k <;> rfl

/-- CHECK_SYNC is latched on the links whose edge mode admits it. -/
theorem link_raiseCheckSync (loss : Bool) :
    (s.raiseCheckSync i loss).link k =
      { s.link k with
        events := (s.link k).events.latchIf ((s.link k).events.checkMode.admits loss) .checkSync (some i.val) } := by
  have one (t : State) (l k : Link) := link_raiseIf t k l (((t.link l).events.checkMode).admits loss) .checkSync
    (some i.val)
  unfold State.raiseCheckSync State.raiseCheckSyncOn
  rw [one, one, one]
  cases k <;> rfl

end Raised

/-! ## The error counter (R96) -/

/-- One event of a kind: the count of a counter of that kind rises to 65,535 at most, where the mark is set. -/
theorem countEvent_eq (f : FrontEnd) (k : CounterKind) :
    f.countEvent k =
      { f with
        count := if f.counterKind = k then (if f.count < 65535 then f.count + 1 else 65535) else f.count
        countOver := f.countOver || (f.counterKind == k && decide (65535 ≤ f.count)) } := by
  unfold FrontEnd.countEvent
  split
  · next hk =>
    split
    · next hc => simp [hk, Nat.not_le.mpr hc]
    · next hc => simp [hk, Nat.not_lt.mp hc]
  · next hk =>
    have other : (f.counterKind == k) = false := beq_false_of_ne hk
    simp [other]

/-! ## The slot of the frame in progress (R105) -/

/-- The slot the frame in progress is written into. -/
def FrontEnd.slot (f : FrontEnd) : Option SlotIx := f.frame.bind (·.slot)

/-- A front end whose frame in progress goes on without a slot. -/
def FrontEnd.withoutSlot (f : FrontEnd) : FrontEnd := { f with frame := f.frame.map fun x => { x with slot := none } }

/-- A ring after the abandonment of a slot, or of none. -/
def Ring.freed (r : Ring) : Option SlotIx → Ring
  | some n => r.abandon n
  | none => r

theorem freed_none (r : Ring) : r.freed none = r := rfl

/-- A frame without a slot is left as it is. -/
theorem withoutSlot_of_none {f : FrontEnd} (h : f.slot = none) : f.withoutSlot = f := by
  have same : f.frame.map (fun x => { x with slot := none }) = f.frame := by
    cases hx : f.frame with
    | none => rfl
    | some x =>
      have hn : x.slot = none := by simpa [FrontEnd.slot, hx] using h
      rw [Option.map_some, ← hn]
  rw [FrontEnd.withoutSlot, same]

/-- The abandonment frees the slot of the frame in progress, which goes on without one. -/
theorem abandonSlot_eq (i : InputIx) (s : State) :
    s.abandonSlot i =
      (s.setRing i ((s.rings.get i).freed (s.fronts.get i).slot)).setFront i (s.fronts.get i).withoutSlot := by
  have stands (h : (s.fronts.get i).slot = none) :
      s = (s.setRing i ((s.rings.get i).freed (s.fronts.get i).slot)).setFront i (s.fronts.get i).withoutSlot := by
    simp [h, withoutSlot_of_none h, freed_none, State.setRing, State.setFront]
  unfold State.abandonSlot
  split
  · next x hx =>
    split
    · next n hn => simp [FrontEnd.slot, FrontEnd.withoutSlot, hx, hn, State.modFront, State.modRing, Ring.freed]
    · next hn => exact stands (by simp [FrontEnd.slot, hx, hn])
  · next hx => exact stands (by simp [FrontEnd.slot, hx])

section Events
variable (i : InputIx) (s : State)

theorem fronts_abandonSlot : (s.abandonSlot i).fronts = s.fronts.set i (s.fronts.get i).withoutSlot := by
  rw [abandonSlot_eq]
  rfl

theorem rings_abandonSlot :
    (s.abandonSlot i).rings = s.rings.set i ((s.rings.get i).freed (s.fronts.get i).slot) := by
  rw [abandonSlot_eq]
  rfl

theorem link_abandonSlot (k : Link) : (s.abandonSlot i).link k = s.link k := (startFree_link k _).abandonSlot rfl i

/-! ## Frame starts (R81, R88, R103) -/

/-- A front end whose frame in progress has been completed as invalid. -/
def FrontEnd.invalid (f : FrontEnd) : FrontEnd := { f.countEvent .invalidFrames with frame := none }

/-- A frame completed as invalid is counted and gone, and its slot is freed (R82, R105). -/
theorem completeInvalid_eq :
    s.completeInvalid i =
      (s.setRing i ((s.rings.get i).freed (s.fronts.get i).slot)).setFront i (s.fronts.get i).invalid := by
  have front : { (s.fronts.get i).withoutSlot.countEvent .invalidFrames with frame := none } = (s.fronts.get i).invalid := by
    rw [FrontEnd.invalid, countEvent_eq, countEvent_eq]
    rfl
  unfold State.completeInvalid
  rw [abandonSlot_eq, State.modFront, State.fronts_setFront, Table.get_set_self, front]
  simp only [State.setFront, table_set_set]

/-- A front end on which a frame begins, with a slot or without. -/
def FrontEnd.begin (clock : Nat) (slot : Option SlotIx) (f : FrontEnd) : FrontEnd :=
  { f with
    prevStart := some clock
    frame := some
      { start := clock, period := f.prevStart.map (clock - ·), firstWidth := none, lines := 0, lineError := false
        startedPresent := f.monitor == .present, slot := slot } }

/-- The sequence number of the next frame captured (R88). -/
def FrontEnd.nextSeq (f : FrontEnd) : Nat := (f.captureCount + 1) % 65536

/-- A front end whose capture frame count has risen. -/
def FrontEnd.capture (f : FrontEnd) : FrontEnd := { f with captureCount := f.nextSeq }

variable {i s}

/-- Out of PRESENT no slot is asked for. -/
theorem openFrame_absent (h : (s.fronts.get i).monitor ≠ .present) :
    s.openFrame i = s.setFront i ((s.fronts.get i).begin s.clock none) := by
  simp only [State.openFrame, State.captureStart, h, if_false]
  rfl

/-- In PRESENT the lowest FREE slot is filled. -/
theorem openFrame_filled (h : (s.fronts.get i).monitor = .present) {n : SlotIx}
    (hn : (s.rings.get i).freeSlot = some n) :
    s.openFrame i =
      (s.setRing i ((s.rings.get i).fill n (s.fronts.get i).nextSeq)).setFront i
        ((s.fronts.get i).capture.begin s.clock (some n)) := by
  simp only [State.openFrame, State.captureStart, h, if_true, State.askSlot, State.rings_setFront, hn, State.modFront,
    State.fronts_modRing, State.fronts_setFront, Table.get_set_self]
  simp only [State.setFront, State.modRing, State.setRing, table_set_set, FrontEnd.begin, FrontEnd.capture, h]
  rfl

/-- With none FREE the frame is dropped, and counted. -/
theorem openFrame_dropped (h : (s.fronts.get i).monitor = .present) (hn : (s.rings.get i).freeSlot = none) :
    s.openFrame i = s.setFront i (((s.fronts.get i).capture.countEvent .drops).begin s.clock none) := by
  simp only [State.openFrame, State.captureStart, h, if_true, State.askSlot, State.rings_setFront, hn, State.modFront,
    State.fronts_setFront, Table.get_set_self]
  simp only [State.setFront, table_set_set, countEvent_eq, FrontEnd.begin, FrontEnd.capture, h]
  rfl

/-- A frame start without a frame in progress begins one (R81). -/
theorem frameStart_no_frame (h : (s.fronts.get i).frame = none) : s.frameStart i = s.openFrame i := by
  simp [State.frameStart, h]

/-- A frame start truncates the frame in progress (R81). -/
theorem frameStart_in_frame {x : FrameInProgress} (h : (s.fronts.get i).frame = some x) :
    s.frameStart i = (s.completeInvalid i).openFrame i := by
  simp [State.frameStart, h]

variable (i s)

/-! ## The path checker (R94, R95) -/

/-- A line's judgement changes the checker and the error counter of a front end alone. -/
theorem judgeLine_frame (f : FrontEnd) (good : Bool) :
    f.judgeLine good =
      { f with
        checker := (f.judgeLine good).checker, runCount := (f.judgeLine good).runCount
        blockPos := (f.judgeLine good).blockPos, blockErrors := (f.judgeLine good).blockErrors
        count := (f.judgeLine good).count, countOver := (f.judgeLine good).countOver } := by
  unfold FrontEnd.judgeLine
  split
  · rfl
  · unfold FrontEnd.huntLine
    split
    · split <;> rfl
    · rfl
  · unfold FrontEnd.syncLine
    rw [countEvent_eq]
    cases good <;> simp only [if_true, Bool.false_eq_true, if_false] <;> split
    · rfl
    · split <;> rfl
    · rfl
    · split <;> rfl

/-- A front end after a line is judged: nothing else of the part but CHECK_SYNC changes with it. -/
theorem fronts_checkLine (good : Bool) :
    (s.checkLine i good).fronts = s.fronts.set i ((s.fronts.get i).judgeLine good) := by
  unfold State.checkLine
  simp only
  split
  · rfl
  · rw [(OnlyEvents.raiseCheckSync _ _ _).fronts]
    rfl

theorem rings_checkLine (good : Bool) : (s.checkLine i good).rings = s.rings := by
  unfold State.checkLine
  simp only
  split
  · rfl
  · rw [(OnlyEvents.raiseCheckSync _ _ _).rings]
    rfl

/-- CHECK_SYNC tells of each change between HUNT and SYNC. -/
theorem link_checkLine (good : Bool) (k : Link) :
    (s.checkLine i good).link k =
      if ((s.fronts.get i).judgeLine good).checker = (s.fronts.get i).checker then s.link k
      else
        { s.link k with
          events := (s.link k).events.latchIf
            ((s.link k).events.checkMode.admits ((s.fronts.get i).checker == .sync)) .checkSync (some i.val) } := by
  unfold State.checkLine
  simp only
  split
  · exact State.link_setFront s i _ k
  · rw [link_raiseCheckSync, State.link_setFront]

/-- A front end whose checker leaves SYNC. -/
def FrontEnd.loseSync (f : FrontEnd) : FrontEnd := if f.checker = .sync then f.enterHunt else f

theorem fronts_loseSync : (s.loseSync i).fronts = s.fronts.set i (s.fronts.get i).loseSync := by
  unfold State.loseSync FrontEnd.loseSync
  split
  · rw [(OnlyEvents.raiseCheckSync _ _ _).fronts]
    rfl
  · exact (Table.set_get_self _ _).symm

theorem rings_loseSync : (s.loseSync i).rings = s.rings := by
  unfold State.loseSync
  split
  · rw [(OnlyEvents.raiseCheckSync _ _ _).rings]
    rfl
  · rfl

/-- A loss of sync is told on both links. -/
theorem link_loseSync (k : Link) :
    (s.loseSync i).link k =
      { s.link k with
        events := (s.link k).events.latchIf ((s.fronts.get i).checker == .sync) .checkSync (some i.val) } := by
  unfold State.loseSync
  split
  · next h => rw [link_raiseCheckSync, State.link_modFront, admits_true, h]; rfl
  · next h => rw [beq_false_of_ne h]; rfl

/-! ## Entries to LOST (R86, R87, R90, R95, R98) -/

/-- A front end whose monitor enters LOST. -/
def FrontEnd.lose (f : FrontEnd) : FrontEnd := (if f.monitor = .present then f.depart else f).enterLost.loseSync

theorem fronts_loseInput : (s.loseInput i).fronts = s.fronts.set i (s.fronts.get i).lose := by
  unfold State.loseInput
  rw [(OnlyEvents.raiseInputState _ _ _).fronts, fronts_loseSync, State.fronts_setFront, Table.get_set_self, table_set_set]
  rfl

theorem rings_loseInput : (s.loseInput i).rings = s.rings := by
  unfold State.loseInput
  rw [(OnlyEvents.raiseInputState _ _ _).rings, rings_loseSync]
  rfl

/-- The event state of a link after an input has entered LOST, with its checker in SYNC or not. -/
def EventState.inputLost (e : EventState) (i : InputIx) (synced : Bool) : EventState :=
  (e.latchIf synced .checkSync (some i.val)).latch .inputState (some i.val)

/-- An entry to LOST is told on both links. -/
theorem link_loseInput (k : Link) :
    (s.loseInput i).link k =
      { s.link k with events := (s.link k).events.inputLost i ((s.fronts.get i).checker == .sync) } := by
  have admitted (m : LossMode) : m.admits (MonitorState.lost == .lost) = true := admits_true m
  have checker (f : FrontEnd) : (if f.monitor = .present then f.depart else f).enterLost.checker = f.checker := by
    split <;> rfl
  unfold State.loseInput
  rw [link_raiseInputState, link_loseSync, State.link_setFront, State.fronts_setFront, Table.get_set_self, admitted, checker]
  rfl

/-! ## Lines (R82, R94 to R96, R104) -/

/-- A ring after a line has been written into a slot, or into none. -/
def Ring.written (r : Ring) (line : List Colour) : Option SlotIx → Ring
  | some n => r.writeLine n line
  | none => r

/-- A line is as wide as the frame's first one. -/
def FrameInProgress.sameWidth (x : FrameInProgress) (pixels : List Colour) : Bool :=
  decide (pixels.length = x.firstWidth.getD pixels.length)

/-- The frame in progress after a line. -/
def FrameInProgress.takeLine (x : FrameInProgress) (pixels : List Colour) : FrameInProgress :=
  { x with
    firstWidth := some (x.firstWidth.getD pixels.length), lines := x.lines + 1
    lineError := x.lineError || !x.sameWidth pixels }

/-- A front end after a line of the frame in progress, before the checker judges it. -/
def FrontEnd.takeLine (f : FrontEnd) (x : FrameInProgress) (pixels : List Colour) : FrontEnd :=
  { (if x.sameWidth pixels then f else f.countEvent .lineErrors) with frame := some (x.takeLine pixels) }

/-- An active line of a frame in progress is written and counted, and then judged. -/
theorem activeLine_eq {x : FrameInProgress} (hx : (s.fronts.get i).frame = some x) (pixels : List Colour) :
    s.activeLine i pixels =
      State.checkLine i (rampLine x.lines pixels)
        ((s.setRing i ((s.rings.get i).written pixels x.slot)).setFront i ((s.fronts.get i).takeLine x pixels)) := by
  have taken (g : FrontEnd) : (if pixels.length ≠ x.firstWidth.getD pixels.length then g.countEvent .lineErrors else g) =
      if x.sameWidth pixels then g else g.countEvent .lineErrors := by
    simp [FrameInProgress.sameWidth]
  unfold State.activeLine
  simp only [hx, taken, decide_not, FrontEnd.takeLine, FrameInProgress.takeLine]
  cases x.slot with
  | none =>
    simp only [Ring.written, State.setRing, Table.set_get_self]
    rfl
  | some n => rfl

/-! ## Frame ends (R82 to R89, R98, R104) -/

/-- The frame in progress is the concern of capture and not of the monitor. -/
theorem frame_validFrame (f : FrontEnd) (form : Format) : (f.validFrame form).frame = f.frame := by
  unfold FrontEnd.validFrame
  split
  · rfl
  · split
    · split
      · split <;> rfl
      · rfl
    · rfl
  · split
    · split <;> rfl
    · rfl

/-- A frame that completes valid is kept where the input is PRESENT before and after it and was so at the frame's start (R89, R98). -/
def FrontEnd.keepsFrame (f : FrontEnd) (x : FrameInProgress) (form : Format) : Bool :=
  f.monitor == .present && (f.validFrame form).monitor == .present && x.startedPresent

/-- A ring after the publication of the slot of a frame that has one, at the raster of a format (R104). -/
def Ring.published (r : Ring) : Option SlotIx → Option Format → Ring
  | some n, some c => r.publish n c.width c.height
  | some _, none => r
  | none, _ => r

/-- The hand-off of a kept frame: its slot, if it has one, is published, and its audio is taken. -/
theorem handOff_kept {x : FrameInProgress} (audio : Option (List Stereo)) (h : x.startedPresent = true) :
    s.handOff i x true audio =
      (s.setRing i ((s.rings.get i).published x.slot (s.fronts.get i).latched)).setFront i
        ((s.fronts.get i).takeAudio audio) := by
  simp only [State.handOff, h, Bool.and_self, if_true]
  cases x.slot with
  | none => simp [Ring.published, State.setRing, State.modFront]
  | some n =>
    cases (s.fronts.get i).latched with
    | none => simp [Ring.published, State.setRing, State.modFront]
    | some c => rfl

/-- The event state of a link after an input's monitor has changed or stayed. -/
def EventState.toldMonitor (e : EventState) (i : InputIx) (before now : MonitorState) : EventState :=
  if before = now then e
  else (e.latchIf (e.inputMode.admits (now == .lost)) .inputState (some i.val)).latchIf
    (decide (before = .present ∧ now = .acquiring)) .rasterChange (some i.val)

section FrameEnd
variable {i s} {x : FrameInProgress} (hx : (s.fronts.get i).frame = some x) (audio : Option (List Stereo))
include hx

/-- A frame that is not valid is completed as invalid (R82). -/
theorem frameEnd_invalid (h : x.validFormat = none) : s.frameEnd i audio = s.completeInvalid i := by
  simp [State.frameEnd, hx, h]

omit hx in
/-- The links hear of a change of the monitor. -/
theorem link_raiseMonitor (before now : MonitorState) (k : Link) :
    (s.raiseMonitor i before now).link k = { s.link k with events := (s.link k).events.toldMonitor i before now } := by
  unfold State.raiseMonitor EventState.toldMonitor
  split
  · rfl
  · simp only
    split
    · next h => rw [link_raiseBoth, link_raiseInputState, decide_eq_true h]; rfl
    · next h => rw [link_raiseInputState, decide_eq_false h]; rfl

/-- The links hear of the monitor alone. -/
theorem link_frameEnd {form : Format} (h : x.validFormat = some form) (k : Link) :
    (s.frameEnd i audio).link k =
      { s.link k with
        events := (s.link k).events.toldMonitor i (s.fronts.get i).monitor ((s.fronts.get i).validFrame form).monitor } := by
  have handed (t : State) (kept : Bool) : (t.handOff i x kept audio).link k = t.link k := by
    unfold State.handOff
    split
    · rw [State.link_modFront]
      split
      · exact State.link_modRing _ _ _ _
      · rfl
    · exact link_abandonSlot i t k
  simp only [State.frameEnd, hx, h, State.link_modFront, handed, link_raiseMonitor, State.link_setFront]

/-- A frame that is kept is published where it has a slot, and gives its audio. -/
theorem frameEnd_kept {form : Format} (h : x.validFormat = some form) (hk : (s.fronts.get i).keepsFrame x form = true) :
    s.frameEnd i audio =
      (s.setRing i ((s.rings.get i).published x.slot ((s.fronts.get i).validFrame form).latched)).setFront i
        { ((s.fronts.get i).validFrame form).takeAudio audio with frame := none } := by
  obtain ⟨⟨before, after⟩, started⟩ : ((s.fronts.get i).monitor = .present ∧
      ((s.fronts.get i).validFrame form).monitor = .present) ∧ x.startedPresent = true := by
    simpa [FrontEnd.keepsFrame] using hk
  have silent (t : State) : t.raiseMonitor i .present .present = t := if_pos rfl
  simp only [State.frameEnd, hx, h, before, after, beq_self_eq_true, Bool.and_self, silent, handOff_kept i _ audio started]
  simp only [State.modFront, Table.get_set_self, State.setFront, State.setRing,
    table_set_set]

/-- Any other valid frame is abandoned. -/
theorem frameEnd_abandoned {form : Format} (h : x.validFormat = some form)
    (hk : (s.fronts.get i).keepsFrame x form = false) :
    (s.frameEnd i audio).fronts = s.fronts.set i { (s.fronts.get i).validFrame form with frame := none } ∧
      (s.frameEnd i audio).rings = s.rings.set i ((s.rings.get i).freed x.slot) := by
  have slot : ((s.fronts.get i).validFrame form).slot = x.slot := by
    rw [FrontEnd.slot, frame_validFrame, hx, Option.bind_some]
  simp only [FrontEnd.keepsFrame] at hk
  simp only [State.frameEnd, hx, h, State.handOff, hk, Bool.false_eq_true, if_false, State.fronts_modFront,
    State.rings_modFront, fronts_abandonSlot, rings_abandonSlot, (State.raiseMonitor_frame i _ _ _).fronts,
    (State.raiseMonitor_frame i _ _ _).rings, State.fronts_setFront, State.rings_setFront, Table.get_set_self, table_set_set,
    slot]
  exact ⟨rfl, trivial⟩

end FrameEnd

/-! ## SET_INPUT (R91, R93, R95, R96, R131) -/

/-- Slate and hold timer of a front end after its slate mode and hold time are set (R91). -/
def FrontEnd.slateSet (f : FrontEnd) (x : InputSettings) : SlateState × HoldTimer :=
  if f.slateMode = .hold ∧ x.slateMode = .fill ∧ f.slate = .holding then (.fill, .stopped)
  else if f.slateMode = .fill ∧ x.slateMode = .hold ∧ f.slate = .fill ∧ f.monitor ≠ .present then
    (.holding, holdTimer x.holdTime)
  else if f.slateMode = x.slateMode ∧ f.slate = .holding ∧ f.holdTime ≠ x.holdTime then (.holding, holdTimer x.holdTime)
  else (f.slate, f.slateTimer)

/-- Setting the slate writes its three settings, and the slate follows. -/
theorem setSlate_eq (f : FrontEnd) (x : InputSettings) :
    f.setSlate x =
      { f with
        slateMode := x.slateMode, holdTime := x.holdTime, fillColour := x.fillColour
        slate := (f.slateSet x).1, slateTimer := (f.slateSet x).2 } := by
  unfold FrontEnd.setSlate FrontEnd.slateSet
  cases f.slateMode <;> cases x.slateMode <;> grind

/-- The checker's switch changes the checker alone. -/
theorem setChecker_frame (f : FrontEnd) (on : Bool) :
    f.setChecker on =
      { f with
        checker := (f.setChecker on).checker, runCount := (f.setChecker on).runCount
        blockPos := (f.setChecker on).blockPos, blockErrors := (f.setChecker on).blockErrors } := by
  unfold FrontEnd.setChecker
  split <;> split <;> rfl

/-- The counter's kind changes the counter alone. -/
theorem setCounterKind_eq (f : FrontEnd) (k : CounterKind) :
    f.setCounterKind k =
      { f with
        counterKind := k, count := if f.counterKind = k then f.count else 0
        countOver := if f.counterKind = k then f.countOver else false } := by
  unfold FrontEnd.setCounterKind
  split
  · next h => rw [← h]
  · rfl

/-- A front end whose loop selection has changed, before its monitor and its checker follow. -/
def FrontEnd.reconnect (f : FrontEnd) (lp : Option ScreenIx) : FrontEnd :=
  { f with loop := lp, frame := none, prevStart := none, fifo := [], audioPresent := false }

/-- A front end after the loop selection is set. -/
def FrontEnd.setLoop (f : FrontEnd) (lp : Option ScreenIx) : FrontEnd :=
  if f.loop = lp then f
  else if f.monitor = .lost then (f.reconnect lp).loseSync
  else (f.reconnect lp).lose

/-- A front end after a SET_INPUT. -/
def FrontEnd.applySettings (f : FrontEnd) (x : InputSettings) : FrontEnd :=
  { ((({ f.setSlate x with criterion := x.criterion } : FrontEnd).setLoop x.loop).setChecker x.checkerOn).setCounterKind
      x.counterKind with
    snapshotMode := x.snapshotMode }

/-- The event state of a link after the loop selection of an input is changed. -/
def EventState.reconnected (e : EventState) (i : InputIx) (f : FrontEnd) : EventState :=
  (e.latchIf (f.checker == .sync) .checkSync (some i.val)).latchIf (f.monitor != .lost) .inputState (some i.val)

theorem checker_loseSync (f : FrontEnd) : f.loseSync.checker ≠ .sync := by
  unfold FrontEnd.loseSync
  split
  · nofun
  · next h => exact h

/-- In LOST no checker is in SYNC. -/
theorem checker_lose (f : FrontEnd) : f.lose.checker ≠ .sync := checker_loseSync _

theorem loseSync_lose (f : FrontEnd) : f.lose.loseSync = f.lose := if_neg (checker_lose f)

theorem setLoop_same {lp : Option ScreenIx} (h : (s.fronts.get i).loop = lp) : s.setLoop i lp = s := if_pos h

/-- A changed loop selection: the slot is freed, and monitor and checker follow. -/
theorem setLoop_changed {lp : Option ScreenIx} (h : (s.fronts.get i).loop ≠ lp) :
    let t := (s.setRing i ((s.rings.get i).freed (s.fronts.get i).slot)).setFront i ((s.fronts.get i).reconnect lp)
    s.setLoop i lp = State.loseSync i (if (s.fronts.get i).monitor = .lost then t else t.loseInput i) := by
  unfold State.setLoop
  rw [if_neg h]
  simp only [abandonSlot_eq, State.modFront, Table.get_set_self, State.setFront, State.setRing,
    table_set_set]
  rfl

theorem fronts_setLoop (lp : Option ScreenIx) :
    (s.setLoop i lp).fronts = s.fronts.set i ((s.fronts.get i).setLoop lp) := by
  by_cases h : (s.fronts.get i).loop = lp
  · rw [setLoop_same i s h, FrontEnd.setLoop, if_pos h, Table.set_get_self]
  · rw [setLoop_changed i s h, FrontEnd.setLoop, if_neg h, fronts_loseSync]
    split
    · simp only [State.fronts_setFront, Table.get_set_self, table_set_set, State.fronts_setRing]
    · simp only [fronts_loseInput, State.fronts_setFront, Table.get_set_self, table_set_set, State.fronts_setRing,
        loseSync_lose]

theorem rings_setLoop (lp : Option ScreenIx) :
    (s.setLoop i lp).rings =
      if (s.fronts.get i).loop = lp then s.rings
      else s.rings.set i ((s.rings.get i).freed (s.fronts.get i).slot) := by
  split
  · next h => rw [setLoop_same i s h]
  · next h =>
    rw [setLoop_changed i s h, rings_loseSync]
    split
    · rfl
    · exact rings_loseInput i _

theorem link_setLoop (lp : Option ScreenIx) (k : Link) :
    (s.setLoop i lp).link k =
      if (s.fronts.get i).loop = lp then s.link k
      else { s.link k with events := (s.link k).events.reconnected i (s.fronts.get i) } := by
  split
  · next h => rw [setLoop_same i s h]
  · next h =>
    rw [setLoop_changed i s h, link_loseSync]
    split
    · next hm => simp [hm, EventState.reconnected, FrontEnd.reconnect, EventState.latchIf]
    · next hm =>
      have done : ((s.fronts.get i).reconnect lp).lose.checker ≠ .sync := checker_lose _
      have checker : ((s.fronts.get i).reconnect lp).checker = (s.fronts.get i).checker := rfl
      simp only [fronts_loseInput, State.fronts_setFront, Table.get_set_self, beq_false_of_ne done, link_loseInput,
        State.link_setFront, State.link_setRing, checker, EventState.reconnected, EventState.inputLost, bne, beq_false_of_ne hm]
      rfl

/-- SET_INPUT at its own input. -/
theorem fronts_applyInputSettings (x : InputSettings) :
    (s.applyInputSettings i x).fronts = s.fronts.set i ((s.fronts.get i).applySettings x) := by
  simp only [State.applyInputSettings, State.fronts_modFront, fronts_setLoop, Table.get_set_self, table_set_set]
  rfl

theorem rings_applyInputSettings (x : InputSettings) :
    (s.applyInputSettings i x).rings =
      if (s.fronts.get i).loop = x.loop then s.rings
      else s.rings.set i ((s.rings.get i).freed (s.fronts.get i).slot) := by
  simp only [State.applyInputSettings, State.rings_modFront, rings_setLoop, State.fronts_modFront, Table.get_set_self,
    setSlate_eq, FrontEnd.slot]

theorem link_applyInputSettings (x : InputSettings) (k : Link) :
    (s.applyInputSettings i x).link k =
      if (s.fronts.get i).loop = x.loop then s.link k
      else { s.link k with events := (s.link k).events.reconnected i (s.fronts.get i) } := by
  simp only [State.applyInputSettings, State.link_modFront, link_setLoop, State.fronts_modFront, Table.get_set_self,
    setSlate_eq, EventState.reconnected]

end Events

end Sys2Proof.Machine
end

section
/-! PROOF. A law of front ends, zones, detector and queued edits, each by itself: what must keep it piece by piece, and that then every step keeps it (O56, O57). -/

namespace Sys2Proof.Machine

/-- A law that speaks of each front end, each zone, the detector and each queued edit by itself. -/
structure PartLaw where
  front : FrontEnd → Prop
  zone : Zone → Prop
  detector : Detector → Prop
  edit : Edit → Prop

structure PartLaw.Holds (L : PartLaw) (s : State) : Prop where
  fronts : ∀ i, L.front (s.fronts.get i)
  zones : ∀ z, L.zone (s.zones.get z)
  detector : L.detector s.detector
  edits : ∀ l, ∀ e ∈ (s.link l).edits, L.edit e

/-- What must keep a law piece by piece: everything the events of the part do to a front end, a zone and the detector, and the reading of an edit. -/
structure PartLaw.Kept (L : PartLaw) : Prop where
  frontPowerOn : L.front .powerOn
  setFrame : ∀ f x, L.front f → L.front { f with frame := x }
  begins : ∀ f clock slot, L.front f → L.front (f.begin clock slot)
  capture : ∀ f, L.front f → L.front f.capture
  countEvent : ∀ f k, L.front f → L.front (f.countEvent k)
  judgeLine : ∀ f good, L.front f → L.front (f.judgeLine good)
  validFrame : ∀ f form, L.front f → L.front (f.validFrame form)
  takeAudio : ∀ f audio, L.front f → L.front (f.takeAudio audio)
  lose : ∀ f, L.front f → L.front f.lose
  miss : ∀ f, L.front f → f.monitor = .present → f.missCount + 1 < f.criterion.n →
    L.front { f with missCount := f.missCount + 1, missLeft := f.latched.map fun c => missInterval c.period }
  slateExpiry : ∀ f, L.front f → L.front f.slateExpiry
  applySettings : ∀ f i x, L.edit (.setInput i x) → L.front f → L.front (f.applySettings x)
  elapse : ∀ f n ms, L.front f → L.front (FrontEnd.elapse n ms f)
  takeSnapshot : ∀ f, L.front f → L.front f.takeSnapshot
  popAudio : ∀ f, L.front f → L.front { f with fifo := f.fifo.drop 1 }
  zonePowerOn : L.zone .powerOn
  rotate : ∀ z, L.zone z → L.zone z.rotate
  sampleZone : ∀ z y, L.zone z → L.zone (z.sample y)
  writeZone : ∀ z r, L.zone z → L.zone (z.write r)
  resetZone : ∀ z, L.zone z → L.zone z.wallReset
  detectorPowerOn : L.detector .powerOn
  judge : ∀ d, L.detector d → L.detector d.judge
  sampleDetector : ∀ d an, L.detector d → L.detector (d.sample an)
  setDetector : ∀ d x, L.detector d → L.detector { d with settings := x }
  readEdit : ∀ k f e, k.lengthOk f = true → readEdit k f = .ok e → L.edit e

/-! ## What such a law does not see -/

/-- `t` has the front ends, zones and detector of `s` and queues no edit that `s` does not. -/
structure SameSignals (s t : State) : Prop where
  fronts : t.fronts = s.fronts
  zones : t.zones = s.zones
  detector : t.detector = s.detector
  edits : ∀ l, (t.link l).edits ⊆ (s.link l).edits

namespace SameSignals

variable {s t u : State}

theorem refl (s : State) : SameSignals s s := ⟨rfl, rfl, rfl, fun _ => List.Subset.refl _⟩

theorem trans (h : SameSignals s t) (k : SameSignals t u) : SameSignals s u where
  fronts := k.fronts.trans h.fronts
  zones := k.zones.trans h.zones
  detector := k.detector.trans h.detector
  edits l _ he := h.edits l (k.edits l he)

theorem ofEvents (h : OnlyEvents s t) : SameSignals s t :=
  ⟨h.fronts, h.zones, h.detector, fun l => by rw [h.link l]; exact List.Subset.refl _⟩

theorem ofPlans (h : OnlyPlans s t) : SameSignals s t :=
  ⟨h.fronts, h.zones, h.detector, fun l => by rw [h.link l]; exact List.Subset.refl _⟩

/-- A change of parts that the law does not speak of. -/
theorem ofParts (hf : t.fronts = s.fronts) (hz : t.zones = s.zones) (hd : t.detector = s.detector)
    (ha : t.linkA = s.linkA) (hb : t.linkB = s.linkB) : SameSignals s t :=
  ⟨hf, hz, hd, fun l => by
    cases l
    · rw [State.link_a, State.link_a, ha]; exact List.Subset.refl _
    · rw [State.link_b, State.link_b, hb]; exact List.Subset.refl _⟩

/-- A link that queues no new edit. -/
theorem setLink (s : State) (l : Link) {x : LinkState} (hx : x.edits ⊆ (s.link l).edits) : SameSignals s (s.setLink l x) :=
  ⟨by simp, by simp, by simp, (SameScene.setLink s l hx).edits⟩

theorem modLink (s : State) (l : Link) {g : LinkState → LinkState} (hg : (g (s.link l)).edits ⊆ (s.link l).edits) :
    SameSignals s (s.modLink l g) := setLink s l hg

theorem modComp (s : State) (scr : ScreenIx) (g : Compositor → Compositor) : SameSignals s (s.modComp scr g) :=
  .ofParts rfl rfl rfl rfl rfl

theorem raise (s : State) (l : Link) (k : EventKind) (index : Option Nat) : SameSignals s (s.raise l k index) :=
  ofEvents (OnlyEvents.raise s l k index)

theorem reply (s : State) (l : Link) (body : List Byte) : SameSignals s (s.reply l body) :=
  modLink s l (List.Subset.refl _)

theorem takeEdit (s : State) (l : Link) : SameSignals s (s.takeEdit l) :=
  (modLink s l (g := fun x => { x with edits := x.edits.tail, barrier := x.barrier.map (· - 1) })
    (List.tail_subset _)).trans (.ofParts rfl rfl rfl rfl rfl)

theorem refuse (s : State) (l : Link) (kind : EditKind) (screens : List ScreenIx) (reason : RefusalReason) :
    SameSignals s (s.refuse l kind screens reason) := by
  cases screens with
  | nil => exact refl s
  | cons scr rest => exact (modLink s l (List.Subset.refl _)).trans (raise _ l _ _)

theorem linkReset (s : State) (l : Link) : SameSignals s (s.linkReset l) :=
  (modLink s l (g := LinkState.reset) (List.nil_subset _)).trans (.ofParts rfl rfl rfl rfl rfl)

theorem settleGap (s : State) (l : Link) : SameSignals s (s.settleGap l) := by
  unfold State.settleGap
  simp only
  split
  · exact setLink s l (List.Subset.refl _)
  · exact refl s

theorem pinEdit (s : State) (l : Link) (kind : EditKind) (scr : ScreenIx) (pin : Pin) :
    SameSignals s (s.pinEdit l kind scr pin) := by
  have set : SameSignals s (s.setPin scr pin) := .ofParts rfl rfl rfl rfl rfl
  unfold State.pinEdit
  split
  · split
    · exact set.trans (raise _ _ _ _)
    · exact refuse s l kind _ _
  · exact set

theorem unpinScreen (s : State) (l : Link) (scr : ScreenIx) : SameSignals s (s.unpinScreen l scr) := by
  unfold State.unpinScreen
  split
  · exact refl s
  · exact pinEdit s l _ _ _

theorem expireHold (s : State) (scr : ScreenIx) : SameSignals s (s.expireHold scr) := by
  have set : SameSignals s (s.setHold scr .clear) := .ofParts rfl rfl rfl rfl rfl
  unfold State.expireHold
  split
  · exact set.trans (raise _ _ _ _)
  · exact refl s

theorem answer (s : State) (l : Link) : SameSignals s (s.answer l) := by
  unfold State.answer
  split
  · refine modLink s l ?_
    unfold LinkState.placeResult
    split <;> exact List.Subset.refl _
  · exact refl s

end SameSignals

namespace PartLaw.Holds

variable {L : PartLaw} {s : State}

theorem congr {t : State} (hs : L.Holds s) (h : SameSignals s t) : L.Holds t where
  fronts i := by rw [h.fronts]; exact hs.fronts i
  zones z := by rw [h.zones]; exact hs.zones z
  detector := by rw [h.detector]; exact hs.detector
  edits l e he := hs.edits l e (h.edits l he)

theorem ofEvents {t : State} (hs : L.Holds s) (h : OnlyEvents s t) : L.Holds t := hs.congr (.ofEvents h)

/-- One front end at a time: the other parts stand, as the frame of an input's event says. -/
theorem ofFront {t : State} {i : InputIx} {f : FrontEnd} (hs : L.Holds s) (h : OnlyInputs (· = i) s t)
    (hf : t.fronts = s.fronts.set i f) (hl : L.front f) : L.Holds t where
  fronts j := by
    rw [hf, Table.get_set]
    split
    · exact hl
    · exact hs.fronts j
  zones z := by rw [h.zones]; exact hs.zones z
  detector := by rw [h.detector]; exact hs.detector
  edits l e he := by
    rw [h.link l] at he
    exact hs.edits l e he

theorem setFront (hs : L.Holds s) (i : InputIx) {f : FrontEnd} (hf : L.front f) : L.Holds (s.setFront i f) :=
  hs.ofFront (State.setFront_frame i s f) rfl hf

theorem setRing (hs : L.Holds s) (i : InputIx) (r : Ring) : L.Holds (s.setRing i r) :=
  hs.congr (.ofParts rfl rfl rfl rfl rfl)

theorem setZone (hs : L.Holds s) (k : ZoneIx) {z : Zone} (hz : L.zone z) : L.Holds (s.setZone k z) where
  fronts := hs.fronts
  zones j := by
    rw [State.zones_setZone, Table.get_set]
    split
    · exact hz
    · exact hs.zones j
  detector := hs.detector
  edits l := by rw [State.link_setZone]; exact hs.edits l

theorem setDetector (hs : L.Holds s) {d : Detector} (hd : L.detector d) : L.Holds (s.setDetector d) :=
  ⟨hs.fronts, hs.zones, hd, fun l => by rw [State.link_setDetector]; exact hs.edits l⟩

end PartLaw.Holds

namespace PartLaw.Kept

variable {L : PartLaw} (hk : L.Kept)
include hk

theorem afterPowerOn (rank : Rank) (rateA rateB : LineRate) (pending : List Instr) :
    L.Holds (.afterPowerOn rank rateA rateB pending) where
  fronts i := by rw [State.front_afterPowerOn]; exact hk.frontPowerOn
  zones z := by rw [State.zone_afterPowerOn]; exact hk.zonePowerOn
  detector := hk.detectorPowerOn
  edits l e he := by cases l <;> cases he

variable {s : State} (hs : L.Holds s)
include hs

/-! ## Time (R97, R128) -/

theorem pass (n : Nat) : L.Holds (s.pass n) where
  fronts i := by
    rw [State.pass, Table.get_map]
    exact hk.elapse _ _ _ (hs.fronts i)
  zones := hs.zones
  detector := hs.detector
  edits l := by rw [State.link_pass]; exact hs.edits l

theorem secondTick : L.Holds s.secondTick where
  fronts i := by
    rw [State.front_secondTick]
    split
    · exact hk.takeSnapshot _ (hs.fronts i)
    · exact hs.fronts i
  zones := by rw [State.zones_secondTick]; exact hs.zones
  detector := by rw [State.detector_secondTick]; exact hs.detector
  edits l := by rw [State.link_secondTick]; exact hs.edits l

theorem secondTicks (k : Nat) : L.Holds (State.secondTicks k s) := by
  induction k generalizing s with
  | zero => exact hs
  | succ k ih => exact ih (hk.secondTick hs)

theorem elapseState (n : Nat) : L.Holds (s.elapse n) := hk.secondTicks (hk.pass hs n) _

theorem snapshots (mode : SnapshotMode) (p : InputIx → Bool) : L.Holds (s.snapshots mode p) := by
  refine PartLaw.Holds.ofEvents (s := { s with fronts := (s.snapshots mode p).fronts }) ⟨fun i => ?_, hs.zones, hs.detector, hs.edits⟩
    (State.snapshots_frame s mode p)
  rw [State.snapshots_front]
  split
  · exact hk.takeSnapshot _ (hs.fronts i)
  · exact hs.fronts i

/-! ## Inputs (R81 to R98, R131) -/

theorem completeInvalid (i : InputIx) : L.Holds (s.completeInvalid i) := by
  rw [completeInvalid_eq]
  exact (hs.setRing i _).setFront i (hk.setFrame _ _ (hk.countEvent _ _ (hs.fronts i)))

theorem openFrame (i : InputIx) : L.Holds (s.openFrame i) := by
  by_cases h : (s.fronts.get i).monitor = .present
  · have captured := hk.capture _ (hs.fronts i)
    cases hn : (s.rings.get i).freeSlot with
    | none =>
      rw [openFrame_dropped h hn]
      exact hs.setFront i (hk.begins _ _ _ (hk.countEvent _ _ captured))
    | some n =>
      rw [openFrame_filled h hn]
      exact (hs.setRing i _).setFront i (hk.begins _ _ _ captured)
  · rw [openFrame_absent h]
    exact hs.setFront i (hk.begins _ _ _ (hs.fronts i))

theorem frameStart (i : InputIx) : L.Holds (s.frameStart i) := by
  cases h : (s.fronts.get i).frame with
  | none =>
    rw [frameStart_no_frame h]
    exact hk.openFrame hs i
  | some x =>
    rw [frameStart_in_frame h]
    exact hk.openFrame (hk.completeInvalid hs i) i

theorem activeLine (i : InputIx) (pixels : List Colour) : L.Holds (s.activeLine i pixels) := by
  cases h : (s.fronts.get i).frame with
  | none =>
    rw [activeLine_no_frame i s pixels h]
    exact hs
  | some x =>
    have taken : L.front ((s.fronts.get i).takeLine x pixels) := by
      refine hk.setFrame _ _ ?_
      split
      · exact hs.fronts i
      · exact hk.countEvent _ _ (hs.fronts i)
    rw [activeLine_eq i s h]
    refine PartLaw.Holds.ofFront ((hs.setRing i _).setFront i taken) (State.checkLine_frame i _ _) (fronts_checkLine i _ _) ?_
    rw [State.fronts_setFront, Table.get_set_self]
    exact hk.judgeLine _ _ taken

theorem frameEnd (i : InputIx) (audio : Option (List Stereo)) : L.Holds (s.frameEnd i audio) := by
  cases h : (s.fronts.get i).frame with
  | none =>
    rw [frameEnd_no_frame i s audio h]
    exact hs
  | some x =>
    cases hv : x.validFormat with
    | none =>
      rw [frameEnd_invalid h audio hv]
      exact hk.completeInvalid hs i
    | some form =>
      have valid := hk.validFrame _ form (hs.fronts i)
      cases hf : (s.fronts.get i).keepsFrame x form with
      | true =>
        rw [frameEnd_kept h audio hv hf]
        exact (hs.setRing i _).setFront i (hk.setFrame _ _ (hk.takeAudio _ _ valid))
      | false =>
        obtain ⟨front, -⟩ := frameEnd_abandoned h audio hv hf
        exact hs.ofFront (State.frameEnd_frame i s audio) front (hk.setFrame _ _ valid)

theorem loseInput (i : InputIx) : L.Holds (s.loseInput i) :=
  hs.ofFront (State.loseInput_frame i s) (fronts_loseInput i s) (hk.lose _ (hs.fronts i))

theorem abandonSlot (i : InputIx) : L.Holds (s.abandonSlot i) :=
  hs.ofFront (State.abandonSlot_frame i s) (fronts_abandonSlot i s) (hk.setFrame _ _ (hs.fronts i))

theorem acquisitionExpiry (i : InputIx) : L.Holds (s.acquisitionExpiry i) := by
  unfold State.acquisitionExpiry
  simp only
  split
  · exact hk.loseInput hs i
  · exact hs

theorem missExpiry (i : InputIx) : L.Holds (s.missExpiry i) := by
  unfold State.missExpiry
  simp only
  split
  · next h =>
    split
    · exact hk.loseInput (hk.abandonSlot hs i) i
    · next hn => exact hs.setFront i (hk.miss _ (hs.fronts i) h.1 (Nat.lt_of_not_le hn))
  · exact hs

theorem startLoopedFrames (scr : ScreenIx) : L.Holds (s.startLoopedFrames scr) := by
  refine foldl_keeps (P := L.Holds) (fun t i ht => ?_) (List.finRange 12) hs
  split
  · exact hk.frameStart ht i
  · exact ht

theorem endLoopedFrame (pic : State) (scr : ScreenIx) (i : InputIx) : L.Holds (State.endLoopedFrame pic scr s i) := by
  unfold State.endLoopedFrame
  split
  · exact hk.frameEnd (foldl_keeps (P := L.Holds) (fun _ _ ht => hk.activeLine ht i _) _ hs) i none
  · exact hs

theorem endLoopedFrames (scr : ScreenIx) : L.Holds (s.endLoopedFrames scr) :=
  foldl_keeps (P := L.Holds) (fun _ i ht => hk.endLoopedFrame ht s scr i) _ hs

/-! ## Resets and requests (R57, R136, R162 to R170) -/

theorem wallReset : L.Holds s.wallReset := by
  have cleared : L.Holds s.wallClear := by
    refine ⟨hs.fronts, fun z => ?_, hs.detector, fun l e he => ?_⟩
    · rw [State.wallClear, Table.get_map]
      exact hk.resetZone _ (hs.zones z)
    · rw [link_wallClear] at he
      cases he
  exact foldl_keeps (P := L.Holds) (fun _ scr ht => hk.startLoopedFrames ht scr) _ cleared

theorem takeEditRequest (l : Link) (tag : Byte) {k : EditKind} {f : List Byte} (hlen : k.lengthOk f = true) :
    L.Holds (s.takeEditRequest l tag k f) := by
  unfold State.takeEditRequest
  split
  · exact hs.congr (.reply s l _)
  · next e he =>
    split
    · refine PartLaw.Holds.congr ⟨?_, ?_, ?_, fun j => ?_⟩ (.reply _ l _)
      · rw [State.fronts_modLink]; exact hs.fronts
      · rw [State.zones_modLink]; exact hs.zones
      · rw [State.detector_modLink]; exact hs.detector
      · intro x hx
        rw [State.link_modLink] at hx
        split at hx
        · rcases List.mem_append.mp hx with hx | hx
          · exact hs.edits j x hx
          · exact List.mem_singleton.mp hx ▸ hk.readEdit k f e hlen he
        · exact hs.edits j x hx
    · exact hs.congr (.reply s l _)

omit hk in
theorem takeQueryRequest (l : Link) (tag : Byte) (k : QueryKind) (f : List Byte) : L.Holds (s.takeQueryRequest l tag k f) := by
  unfold State.takeQueryRequest
  split
  · exact hs.congr (.reply s l _)
  · split
    · exact hs.congr ((SameSignals.modLink s l (List.Subset.refl _)).trans (.reply _ l _))
    · exact hs.congr (.reply s l _)

omit hk in
theorem takeSetEvents (l : Link) (tag : Byte) (f : List Byte) : L.Holds (s.takeSetEvents l tag f) := by
  unfold State.takeSetEvents
  split
  · exact hs.congr ((SameSignals.modLink s l (List.Subset.refl _)).trans (.reply _ l _))
  · exact hs.congr (.reply s l _)

theorem takeWallReset (l : Link) (tag : Byte) : L.Holds (s.takeWallReset l tag) := by
  unfold State.takeWallReset
  split
  · exact hs.congr (.reply s l _)
  · exact (hk.wallReset hs).congr (.reply _ l _)

theorem takeFrame (l : Link) (kind tag : Byte) (f : List Byte) : L.Holds (s.takeFrame l kind tag f) := by
  unfold State.takeFrame
  split
  · next k _ =>
    unfold State.takeNamed
    split
    · next hlen =>
      cases k with
      | edit e => exact hk.takeEditRequest hs l tag hlen
      | query q => exact takeQueryRequest hs l tag q f
      | identify => exact hs.congr (.reply s l _)
      | takeEvents => exact hs.congr ((SameSignals.modLink s l (List.Subset.refl _)).trans (.reply _ l _))
      | setEvents => exact takeSetEvents hs l tag f
      | wallReset => exact hk.takeWallReset hs l tag
      | linkReset => exact hs.congr ((SameSignals.linkReset s l).trans (.reply _ l _))
    · exact hs.congr (.reply s l _)
  · exact hs.congr (.reply s l _)

theorem complete (l : Link) (kind tag : Byte) (f : List Byte) : L.Holds (s.complete l kind tag f) := by
  have arrived : L.Holds (s.modLink l fun x => x.arrived s.clock) := hs.congr (.modLink s l (List.Subset.refl _))
  unfold State.complete
  split
  · simp only
    split
    · exact hk.takeFrame arrived l kind tag f
    · exact arrived.congr (.modLink _ l (List.Subset.refl _))
  · exact hs

/-! ## The receive lines (R156 to R162) -/

theorem takeBody (l : Link) (body : List Byte) : L.Holds (s.takeBody l body) := by
  unfold State.takeBody
  split
  · exact hk.takeFrame hs l _ _ _
  · exact hs
  · exact hs

theorem parseOnce (l : Link) {t : State} (h : s.parseOnce l = some t) : L.Holds t := by
  have next {t : State} (h : (s.link l).takeNext.map (s.setLink l) = some t) : L.Holds t := by
    obtain ⟨x, hx, rfl⟩ := Option.map_eq_some_iff.mp h
    exact hs.congr (.setLink s l (LinkState.edits_takeNext hx ▸ List.Subset.refl _))
  unfold State.parseOnce at h
  simp only at h
  split at h
  · split at h
    · cases h
      exact hk.takeBody (hs.congr (.setLink s l (x := (s.link l).setPhase .hunt) (List.Subset.refl _))) l _
    · cases h
  · exact next h
  · exact next h
  · exact next h
  · exact next h

theorem parseFor (l : Link) (n : Nat) : L.Holds (State.parseFor l n s) := by
  induction n generalizing s with
  | zero => exact hs
  | succ n ih =>
    unfold State.parseFor
    split
    · next h => exact ih (hk.parseOnce hs l h)
    · exact hs

theorem parse (l : Link) : L.Holds (s.parse l) := (hk.parseFor hs l _).congr (.settleGap _ l)

theorem arrive (l : Link) (b : Byte) (stop : Bool) : L.Holds (s.arrive l b stop) :=
  hk.parse (hs.congr (.modLink s l (by rw [LinkState.edits_receive]; exact List.Subset.refl _))) l

theorem holdZero (l : Link) : L.Holds (s.holdZero l) := by
  unfold State.holdZero
  split
  · exact hs
  · exact hk.arrive (hk.elapseState hs _) l 0 false

omit hk in
theorem breakLine (l : Link) : L.Holds (s.breakLine l) :=
  hs.congr ((SameSignals.modLink s l (List.Subset.refl _)).trans (.linkReset _ l))

theorem endTransmission (l : Link) : L.Holds (s.endTransmission l) :=
  hk.parse (hs.congr (.modLink s l (by rw [LinkState.edits_endFrame]; exact List.Subset.refl _))) l

/-! ## Screens (R59 to R61, R78, R119 to R132) -/

theorem startFrame (scr : ScreenIx) (leadIn : Bool) : L.Holds (s.startFrame scr leadIn) := by
  unfold State.startFrame
  exact hk.startLoopedFrames (hs.congr (.modComp s scr _)) scr

theorem wake (scr : ScreenIx) : L.Holds (s.wake scr) := by
  unfold State.wake
  exact hk.startFrame (hs.congr (.modComp s scr _)) scr true

theorem commit (scr : ScreenIx) : L.Holds (s.commit scr) := by
  have copied : SameSignals s (s.copyStage scr) := by
    unfold State.copyStage
    split
    · exact .ofParts rfl rfl rfl rfl rfl
    · exact .refl s
  have planned := copied.trans (.ofPlans (State.planStage_onlyPlans scr _ (s.comps.get scr)))
  unfold State.commit
  simp only
  split
  · have released := planned.trans
      (.ofPlans ((State.leaveAll_onlyPlans scr _).trans (State.releasePasses_onlyPlans scr _)))
    have given := released.trans (.ofPlans ((OnlyPlans.foldl (State.standbyRelease_onlyPlans scr) windowsInOrder _).trans
      (OnlyPlans.foldl (fun t k => State.giveUpSlot_onlyPlans t (s.comps.get scr) k) windowsInOrder _)))
    exact hs.congr (given.trans (.ofParts rfl rfl rfl rfl rfl))
  · have staged := planned.trans (.ofPlans (((State.releaseStage_onlyPlans scr _ (s.comps.get scr)).trans
      (State.requestStage_onlyPlans scr _)).trans (State.slotStage_onlyPlans scr _ (s.comps.get scr))))
    exact hk.startFrame (hs.congr staged) scr false

theorem writeStaged (scr : ScreenIx) (r : ScreenRecord) : L.Holds (s.writeStaged scr r) := by
  have written : L.Holds (s.setStaged scr r) := hs.congr (.ofParts rfl rfl rfl rfl rfl)
  unfold State.writeStaged
  simp only
  split
  · exact hk.wake written scr
  · exact written

theorem screenEdit (l : Link) (kind : EditKind) (hold : Bool) (scr : ScreenIx) (write : ScreenRecord → ScreenRecord) :
    L.Holds (s.screenEdit l kind hold scr write) := by
  unfold State.screenEdit
  split
  · exact hs.congr (.refuse s l kind _ _)
  · exact (hk.writeStaged hs scr _).congr (.ofParts rfl rfl rfl rfl rfl)

theorem groupEdit (l : Link) (screens : List ScreenIx) (c : GroupChange) : L.Holds (s.groupEdit l screens c) :=
  (foldl_keeps (P := L.Holds) (fun _ k ht => hk.writeStaged ht k _) _ hs).congr (.refuse _ _ _ _ _)

/-! ## Audio (R142 to R151) -/

theorem judgeBlock : L.Holds s.judgeBlock := by
  have judged : L.Holds (s.setDetector s.detector.judge) := hs.setDetector (hk.judge _ hs.detector)
  unfold State.judgeBlock
  split
  · simp only
    split
    · exact judged
    · exact judged.ofEvents (OnlyEvents.raiseAnnounce _ _)
  · exact hs

theorem sampleZoneState (an : Sample) (k : ZoneIx) : L.Holds (s.sampleZone an k) := by
  have sampled (z : Zone) (hz : L.zone z) (y : Int × Int) :
      L.Holds (if z.raises y then (s.setZone k (z.sample y)).raiseBoth .audioClip (some k.val) else s.setZone k (z.sample y)) := by
    have written := hs.setZone k (hk.sampleZone z y hz)
    split
    · exact written.ofEvents (OnlyEvents.raiseBoth _ _ _)
    · exact written
  refine sampled _ ?_ _
  split
  · exact hk.rotate _ (hs.zones k)
  · exact hs.zones k

theorem popAudioState : L.Holds s.popAudio where
  fronts i := by
    rw [State.popAudio, Table.get_map]
    exact hk.popAudio _ (hs.fronts i)
  zones := hs.zones
  detector := hs.detector
  edits := hs.edits

theorem samplePeriod (an : Sample) : L.Holds (s.samplePeriod an) := by
  have popped := hk.popAudioState
    (foldl_keeps (P := L.Holds) (fun _ k ht => hk.sampleZoneState ht an k) zonesInOrder (hk.judgeBlock hs))
  unfold State.samplePeriod
  exact popped.setDetector (hk.sampleDetector _ an popped.detector)

/-! ## Every command -/

omit hk in
/-- The application of a queued edit: it meets the law, and so does the state it was taken from. -/
theorem applied {l : Link} {e : Edit} (h : s.chosen = some (l, e)) : L.Holds (s.takeEdit l) ∧ L.edit e :=
  ⟨hs.congr (.takeEdit s l), hs.edits l e (chosen_queued h)⟩

theorem appliedScreenEdit {l : Link} {e : Edit} (h : s.chosen = some (l, e)) (kind : EditKind) (hold : Bool) (scr : ScreenIx)
    (write : ScreenRecord → ScreenRecord) : Leads L.Holds (.next ((s.takeEdit l).screenEdit l kind hold scr write)) :=
  .next (hk.screenEdit (applied hs h).1 l kind hold scr write)

theorem execApplySetMain : Leads L.Holds (execApplySetMain s) := by
  unfold Machine.execApplySetMain
  split
  · next h => exact hk.appliedScreenEdit hs h _ _ _ _
  · exact .next hs

theorem execApplySetInset : Leads L.Holds (execApplySetInset s) := by
  unfold Machine.execApplySetInset
  split
  · next h => exact hk.appliedScreenEdit hs h _ _ _ _
  · exact .next hs

theorem execApplyClearInset : Leads L.Holds (execApplyClearInset s) := by
  unfold Machine.execApplyClearInset
  split
  · next h => exact hk.appliedScreenEdit hs h _ _ _ _
  · exact .next hs

theorem execApplyClearScreen : Leads L.Holds (execApplyClearScreen s) := by
  unfold Machine.execApplyClearScreen
  split
  · next h => exact hk.appliedScreenEdit hs h _ _ _ _
  · exact .next hs

theorem execApplySwap : Leads L.Holds (execApplySwap s) := by
  unfold Machine.execApplySwap
  split
  · next h => exact hk.appliedScreenEdit hs h _ _ _ _
  · exact .next hs

theorem execApplySetScreen : Leads L.Holds (execApplySetScreen s) := by
  unfold Machine.execApplySetScreen
  split
  · next h => exact hk.appliedScreenEdit hs h _ _ _ _
  · exact .next hs

theorem execApplyGroup : Leads L.Holds (execApplyGroup s) := by
  unfold Machine.execApplyGroup
  split
  · next h =>
    obtain ⟨ht, -⟩ := applied hs h
    exact .next (hk.groupEdit ht _ _ _)
  · exact .next hs

omit hk in
theorem execApplyPin : Leads L.Holds (execApplyPin s) := by
  unfold Machine.execApplyPin
  split
  · next h =>
    obtain ⟨ht, -⟩ := applied hs h
    exact .next (ht.congr (.pinEdit _ _ _ _ _))
  · exact .next hs

omit hk in
theorem execApplyUnpin : Leads L.Holds (execApplyUnpin s) := by
  unfold Machine.execApplyUnpin
  split
  · next h =>
    obtain ⟨ht, -⟩ := applied hs h
    exact .next (ht.congr (.unpinScreen _ _ _))
  · exact .next hs

theorem applyInputSettings (i : InputIx) {x : InputSettings} (hx : L.edit (.setInput i x)) :
    L.Holds (s.applyInputSettings i x) :=
  hs.ofFront (State.applyInputSettings_frame i s x) (fronts_applyInputSettings i s x) (hk.applySettings _ i x hx (hs.fronts i))

theorem applyZone (k : ZoneIx) (r : ZoneRecord) (d : DetectorSettings) : L.Holds (s.applyZone k r d) :=
  (hs.setZone k (hk.writeZone _ r (hs.zones k))).setDetector (hk.setDetector _ d hs.detector)

theorem execApplySetInput : Leads L.Holds (execApplySetInput s) := by
  unfold Machine.execApplySetInput
  split
  · next h =>
    obtain ⟨ht, he⟩ := applied hs h
    exact .next (hk.applyInputSettings ht _ he)
  · exact .next hs

theorem execApplySetZone : Leads L.Holds (execApplySetZone s) := by
  unfold Machine.execApplySetZone
  split
  · next h =>
    obtain ⟨ht, -⟩ := applied hs h
    exact .next (hk.applyZone ht _ _ _)
  · exact .next hs

theorem execApplySnapshotCounters : Leads L.Holds (execApplySnapshotCounters s) := by
  unfold Machine.execApplySnapshotCounters
  split
  · next h =>
    obtain ⟨ht, -⟩ := applied hs h
    exact .next (hk.snapshots ht _ _)
  · exact .next hs

theorem execActiveLine (i : InputIx) (pixels : List Colour) : Leads L.Holds (execActiveLine i pixels s) := by
  unfold Machine.execActiveLine
  split
  · exact .next (hk.activeLine hs i pixels)
  · exact .ite (.next (hk.activeLine hs i _)) (.next hs)

theorem execFrameEnd (i : InputIx) (audio : Option (List Stereo)) : Leads L.Holds (execFrameEnd i audio s) := by
  unfold Machine.execFrameEnd
  split
  · exact .next (hk.frameEnd hs i audio)
  · exact .ite (.next hs) (.next (hk.frameEnd hs i none))

theorem execBoundary (scr : ScreenIx) : Leads L.Holds (execBoundary scr s) :=
  .ite (.next hs) (.next (hk.commit (hk.endLoopedFrames (hk.elapseState hs _) scr) scr))

theorem exec (c : Instr) : Leads L.Holds (exec c s) := by
  cases c with
  | powerOn rank rateA rateB => exact .next (hk.afterPowerOn rank rateA rateB s.pending)
  | setMain l tag f | setInset l tag f | clearInset l tag f | clearScreen l tag f | swap l tag f | setScreen l tag f
  | group l tag f | pin l tag f | unpin l tag f | setInput l tag f | setZone l tag f | snapshotCounters l tag f
  | readScreen l tag f | readWindow l tag f | readInput l tag f | readZone l tag f | readPool l tag f
  | readCounters l tag f | readLink l tag f | identify l tag f | takeEvents l tag f | setEvents l tag f
  | wallReset l tag f | linkReset l tag f => exact .next (hk.complete hs l _ tag f)
  | unknownKind l kind tag f => exact .next (hk.complete hs l kind tag f)
  | applySetMain => exact hk.execApplySetMain hs
  | applySetInset => exact hk.execApplySetInset hs
  | applyClearInset => exact hk.execApplyClearInset hs
  | applyClearScreen => exact hk.execApplyClearScreen hs
  | applySwap => exact hk.execApplySwap hs
  | applySetScreen => exact hk.execApplySetScreen hs
  | applyGroup => exact hk.execApplyGroup hs
  | applyPin => exact execApplyPin hs
  | applyUnpin => exact execApplyUnpin hs
  | applySetInput => exact hk.execApplySetInput hs
  | applySetZone => exact hk.execApplySetZone hs
  | applySnapshotCounters => exact hk.execApplySnapshotCounters hs
  | answerEvent l => exact .next (hs.congr (.answer s l))
  | oneSecondTick => exact .next (hk.elapseState hs _)
  | pinLapsed scr => exact .ite (.next hs) (.next (hk.elapseState hs _))
  | holdExpired scr => exact .ite (.next hs) (.next ((hk.elapseState hs _).congr (.expireHold _ scr)))
  | arrival l wait b stop => exact .next (hk.arrive (hk.elapseState hs wait) l b stop)
  | interByteTimeout l => exact .ite (.next ((hk.elapseState hs _).congr (.settleGap _ l))) (.next hs)
  | lineBreak l => exact .next (breakLine (hk.elapseState (hk.holdZero hs l) _) l)
  | transmissionEnd l => exact .ite (.next hs) (.next (hk.endTransmission (hk.elapseState hs _) l))
  | frameStart i wait => exact .ite (.next (hk.frameStart (hk.elapseState hs wait) i)) (.next (hk.elapseState hs wait))
  | activeLine i pixels => exact hk.execActiveLine hs i pixels
  | frameEnd i audio => exact hk.execFrameEnd hs i audio
  | acquisitionTimerExpiry i => exact .ite (.next hs) (.next (hk.acquisitionExpiry (hk.elapseState hs _) i))
  | missIntervalExpiry i => exact .ite (.next hs) (.next (hk.missExpiry (hk.elapseState hs _) i))
  | slateHoldExpiry i =>
    have passed := hk.elapseState hs (s.toSlateExpiry i)
    exact .ite (.next (passed.setFront i (hk.slateExpiry _ (passed.fronts i)))) (.next hs)
  | samplePeriod an => exact .next (hk.samplePeriod hs an)
  | blockJudgement => exact .next (hk.judgeBlock hs)
  | boundary scr => exact hk.execBoundary hs scr

omit hs in
/-- A law that is kept piece by piece is kept by every step. -/
theorem step {s t : State} (hs : L.Holds s) (h : step s = .next t) : L.Holds t :=
  step_keeps (P := L.Holds) (fun _ _ hs => hs.congr (.ofParts rfl rfl rfl rfl rfl)) (fun c _ hs => hk.exec hs c)
    (fun n _ hs => hk.elapseState hs n) hs t h

end PartLaw.Kept

end Sys2Proof.Machine
end

section
/-! PROOF. Every step keeps the law of the audio: samples of 24 bits, delay lines, FIFOs and the detector's counts in their ranges (R98, R138, R144 to R147). -/

namespace Sys2Proof.Machine

/-- A zone's output and delay line hold 24-bit samples, and its counts their ranges. -/
def Zone.Lawful (z : Zone) : Prop :=
  Sample24 z.out.1 ∧ Sample24 z.out.2 ∧ (∀ y ∈ z.line, Sample24 y.1 ∧ Sample24 y.2) ∧ z.line.length ≤ 9600 ∧ z.clipCount ≤ 65535

/-- The detector's counts hold their ranges. -/
def Detector.Lawful (d : Detector) : Prop := d.run ≤ 255 ∧ d.peak ≤ 8388608 ∧ d.pos < 480

/-- `AudioLaw`, piece by piece. -/
def audioLaw : PartLaw :=
  { front := fun f => f.fifo.length ≤ 4096, zone := Zone.Lawful, detector := Detector.Lawful, edit := fun _ => True }

theorem audioLaw_iff (s : State) : AudioLaw s ↔ audioLaw.Holds s := by
  constructor
  · rintro ⟨zones, run, peak, pos, fifos⟩
    exact ⟨fifos, zones, ⟨run, peak, pos⟩, fun _ _ _ => trivial⟩
  · rintro ⟨fifos, zones, ⟨run, peak, pos⟩, -⟩
    exact ⟨zones, run, peak, pos, fifos⟩

theorem zone_lawful_powerOn : Zone.powerOn.Lawful := by
  simp [Zone.Lawful, Zone.powerOn, Sample24]

theorem Zone.Lawful.sample {z : Zone} (h : z.Lawful) (y : Int × Int) : (z.sample y).Lawful := by
  obtain ⟨outL, outR, line, length, clips⟩ := h
  have written : Sample24 (saturate y.1) ∧ Sample24 (saturate y.2) := ⟨saturate_range _, saturate_range _⟩
  have earlier (n : Nat) : Sample24 (z.earlier n).1 ∧ Sample24 (z.earlier n).2 := by
    unfold Zone.earlier
    by_cases hn : n - 1 < z.line.length
    · rw [List.getD_eq_getElem _ _ hn]
      exact line _ (List.getElem_mem hn)
    · rw [List.getD_eq_default _ _ (Nat.le_of_not_lt hn)]
      simp [Sample24]
  have output : Sample24 (z.output (saturate y.1, saturate y.2)).1 ∧ Sample24 (z.output (saturate y.1, saturate y.2)).2 := by
    unfold Zone.output
    split
    · exact written
    · exact earlier _
  refine ⟨output.1, output.2, fun x hx => ?_, ?_, ?_⟩
  · rcases List.mem_cons.mp (List.mem_of_mem_take hx) with rfl | hx
    · exact written
    · exact line x hx
  · exact (List.length_take_le _ _)
  · simp only [Zone.sample, countUp]
    split
    · split <;> omega
    · exact clips

theorem Detector.Lawful.judge {d : Detector} (h : d.Lawful) : d.judge.Lawful := by
  obtain ⟨run, -, -⟩ := h
  have next : d.nextRun ≤ 255 := by
    simp only [Detector.nextRun, countUp]
    split <;> omega
  have cleared (state : DetectorState) {r : Nat} (hr : r ≤ 255) :
      Detector.Lawful { d with state := state, run := r, peak := 0, pos := 0, due := false } :=
    ⟨hr, Nat.zero_le _, Nat.zero_lt_succ _⟩
  unfold Detector.judge
  simp only
  cases hd : d.state with
  | idle =>
    simp only
    split
    · split
      · exact cleared _ (Nat.zero_le _)
      · exact cleared _ next
    · exact cleared _ (Nat.zero_le _)
  | active =>
    simp only
    split
    · exact cleared _ (Nat.zero_le _)
    · split
      · exact cleared _ (Nat.zero_le _)
      · exact cleared _ next

/-- A 24-bit sample is at most 2^23 in size. -/
theorem natAbs_sample_le (an : Sample) : an.toInt.natAbs ≤ 8388608 := by
  have lo := BitVec.le_toInt an
  have hi := BitVec.toInt_lt (x := an)
  norm_num at lo hi
  omega

theorem Detector.Lawful.sample {d : Detector} (h : d.Lawful) (an : Sample) : (d.sample an).Lawful := by
  obtain ⟨run, peak, pos⟩ := h
  have position : (d.sample an).pos = if d.pos + 1 < 480 then d.pos + 1 else 0 := rfl
  refine ⟨run, max_le peak (natAbs_sample_le an), ?_⟩
  rw [position]
  split <;> omega

/-- A valid frame leaves the audio samples of a front end, or empties them where PRESENT is left (R98). -/
theorem fifo_validFrame (f : FrontEnd) (form : Format) : (f.validFrame form).fifo = f.fifo ∨ (f.validFrame form).fifo = [] := by
  unfold FrontEnd.validFrame
  split
  · exact .inl rfl
  · split
    · split
      · split <;> exact .inl rfl
      · exact .inl rfl
    · exact .inl rfl
  · split
    · split
      · exact .inl rfl
      · exact .inr rfl
    · exact .inr rfl

theorem fifo_loseSync (f : FrontEnd) : f.loseSync.fifo = f.fifo := by
  unfold FrontEnd.loseSync
  split <;> rfl

/-- So does an entry to LOST. -/
theorem fifo_lose (f : FrontEnd) : f.lose.fifo = f.fifo ∨ f.lose.fifo = [] := by
  unfold FrontEnd.lose
  rw [fifo_loseSync]
  split
  · exact .inr rfl
  · exact .inl rfl

theorem fifo_setLoop (f : FrontEnd) (lp : Option ScreenIx) : (f.setLoop lp).fifo = f.fifo ∨ (f.setLoop lp).fifo = [] := by
  unfold FrontEnd.setLoop
  split
  · exact .inl rfl
  · split
    · exact .inr (fifo_loseSync _)
    · exact .inr ((fifo_lose (f.reconnect lp)).elim id id)

theorem fifo_applySettings (f : FrontEnd) (x : InputSettings) :
    (f.applySettings x).fifo = f.fifo ∨ (f.applySettings x).fifo = [] := by
  have slate : (f.setSlate x).fifo = f.fifo := by rw [setSlate_eq]
  have loop := fifo_setLoop { f.setSlate x with criterion := x.criterion } x.loop
  rw [FrontEnd.applySettings, setCounterKind_eq, setChecker_frame]
  rwa [← slate]

/-- A FIFO that stands or is emptied keeps its bound. -/
theorem length_le_of_eq_or_nil {xs ys : List Stereo} (h : xs.length ≤ 4096) (e : ys = xs ∨ ys = []) : ys.length ≤ 4096 := by
  rcases e with rfl | rfl
  · exact h
  · exact Nat.zero_le _

theorem audioLaw_kept : audioLaw.Kept where
  frontPowerOn := Nat.zero_le _
  setFrame _ _ h := h
  begins _ _ _ h := h
  capture _ h := h
  countEvent f k h := by rw [countEvent_eq]; exact h
  judgeLine f good h := by rw [judgeLine_frame]; exact h
  validFrame f form h := length_le_of_eq_or_nil h (fifo_validFrame f form)
  takeAudio f audio h := by
    cases audio with
    | none => exact h
    | some xs => exact List.length_take_le _ _
  lose f h := length_le_of_eq_or_nil h (fifo_lose f)
  miss _ h _ _ := h
  slateExpiry f h := by
    unfold FrontEnd.slateExpiry
    split <;> exact h
  applySettings f _ x _ h := length_le_of_eq_or_nil h (fifo_applySettings f x)
  elapse _ _ _ h := h
  takeSnapshot _ h := h
  popAudio f h := (List.drop_sublist 1 f.fifo).length_le.trans h
  zonePowerOn := zone_lawful_powerOn
  rotate _ h := h
  sampleZone _ y h := h.sample y
  writeZone z _ h := by
    obtain ⟨outL, outR, line, length, -⟩ := h
    exact ⟨outL, outR, line, length, Nat.zero_le _⟩
  resetZone z h := by
    obtain ⟨outL, outR, -⟩ := h
    exact ⟨outL, outR, nofun, Nat.zero_le _, Nat.zero_le _⟩
  detectorPowerOn := ⟨Nat.zero_le _, Nat.zero_le _, Nat.zero_lt_succ _⟩
  judge _ h := h.judge
  sampleDetector _ an h := h.sample an
  setDetector _ _ h := h
  readEdit _ _ _ _ _ := trivial

/-- Settles O56: every event keeps the ranges of each front end, each zone and the detector. -/
theorem everyStepKeepsTheAudioLaw : Obligations.EveryStepKeepsTheAudioLaw := fun s t hs h =>
  (audioLaw_iff t).mpr (audioLaw_kept.step ((audioLaw_iff s).mp hs) h)

end Sys2Proof.Machine
end

section
/-! PROOF. Every step keeps the law of the front ends: what each holds in its monitor state, and its counts (R80, R84 to R86, R90, R94 to R97). -/

namespace Sys2Proof.Machine

/-- `FrontLaw`, piece by piece. -/
def frontLaw : PartLaw :=
  { front := FrontEnd.Lawful, zone := fun _ => True, detector := fun _ => True, edit := Edit.InRange }

theorem frontLaw_iff (s : State) : FrontLaw s ↔ frontLaw.Holds s :=
  ⟨fun h => ⟨h.1, fun _ => trivial, trivial, h.2⟩, fun h => ⟨h.fronts, h.edits⟩⟩

/-- What a front end meets in every monitor state: the slate's timer runs exactly while it holds, and the counts keep their ranges. -/
def FrontEnd.Ranged (f : FrontEnd) : Prop :=
  (f.slate = .holding ↔ f.slateTimer ≠ .stopped) ∧
  f.acqCount ≤ 30 ∧ f.missCount ≤ 30 ∧ f.captureCount < 65536 ∧ f.count ≤ 65535 ∧ f.snap ≤ 65535 ∧
  f.runCount ≤ 8 ∧ f.blockPos ≤ 63 ∧ f.blockErrors ≤ 7 ∧ f.holdTime ≤ 60

/-- What a front end holds in its monitor state. -/
def FrontEnd.Monitored (f : FrontEnd) : Prop :=
  match f.monitor with
  | .lost => f.candidate = none ∧ f.acqCount = 0 ∧ f.missCount = 0 ∧ f.acqTimer = none ∧ f.missLeft = none
  | .acquiring => f.candidate ≠ none ∧ 1 ≤ f.acqCount ∧ f.acqTimer ≠ none ∧ f.missLeft = none
  | .present => f.candidate = none ∧ f.latched ≠ none ∧ f.acqTimer = none ∧ f.missLeft ≠ none ∧ f.slate = .idle

theorem lawful_iff (f : FrontEnd) : f.Lawful ↔ f.Monitored ∧ f.Ranged := by
  unfold FrontEnd.Lawful FrontEnd.Monitored FrontEnd.Ranged
  cases f.monitor <;> exact Iff.rfl

theorem monitored_acquiring {f : FrontEnd} (h : f.monitor = .acquiring) :
    f.Monitored ↔ f.candidate ≠ none ∧ 1 ≤ f.acqCount ∧ f.acqTimer ≠ none ∧ f.missLeft = none := by
  rw [FrontEnd.Monitored, h]

theorem monitored_present {f : FrontEnd} (h : f.monitor = .present) :
    f.Monitored ↔ f.candidate = none ∧ f.latched ≠ none ∧ f.acqTimer = none ∧ f.missLeft ≠ none ∧ f.slate = .idle := by
  rw [FrontEnd.Monitored, h]

theorem lawful_acquiring {f : FrontEnd} (h : f.monitor = .acquiring)
    (held : f.candidate ≠ none ∧ 1 ≤ f.acqCount ∧ f.acqTimer ≠ none ∧ f.missLeft = none) (ranged : f.Ranged) : f.Lawful :=
  (lawful_iff f).mpr ⟨(monitored_acquiring h).mpr held, ranged⟩

theorem lawful_present {f : FrontEnd} (h : f.monitor = .present)
    (held : f.candidate = none ∧ f.latched ≠ none ∧ f.acqTimer = none ∧ f.missLeft ≠ none ∧ f.slate = .idle)
    (ranged : f.Ranged) : f.Lawful :=
  (lawful_iff f).mpr ⟨(monitored_present h).mpr held, ranged⟩

theorem holdTimer_ne_stopped (seconds : Nat) : holdTimer seconds ≠ .stopped := by
  unfold holdTimer
  split <;> nofun

theorem criterion_m_le (c : Criterion) : c.m ≤ 30 := by cases c <;> decide

theorem criterion_n_le (c : Criterion) : c.n ≤ 30 := by cases c <;> decide

namespace FrontEnd.Ranged

variable {f : FrontEnd} (h : f.Ranged)
include h

theorem depart : f.depart.Ranged := by
  obtain ⟨-, counts⟩ := h
  refine ⟨?_, counts⟩
  unfold FrontEnd.depart
  cases f.slateMode with
  | hold => simp [holdTimer_ne_stopped]
  | fill => simp

theorem enterAcquiring (x : Format) : (f.enterAcquiring x).Lawful := by
  obtain ⟨slate, -, counts⟩ := h
  exact ⟨⟨nofun, Nat.le_refl 1, nofun, rfl⟩, slate, Nat.one_le_iff_ne_zero.mpr (by decide), counts⟩

theorem enterPresent (x : Format) : (f.enterPresent x).Lawful := by
  obtain ⟨-, -, -, counts⟩ := h
  exact ⟨⟨rfl, nofun, rfl, nofun, rfl⟩, by simp [FrontEnd.enterPresent], Nat.zero_le _, Nat.zero_le _, counts⟩

theorem enterLost : f.enterLost.Lawful := by
  obtain ⟨slate, -, -, counts⟩ := h
  exact ⟨⟨rfl, rfl, rfl, rfl, rfl⟩, slate, Nat.zero_le _, Nat.zero_le _, counts⟩

end FrontEnd.Ranged

namespace FrontEnd.Lawful

variable {f : FrontEnd} (h : f.Lawful)
include h

theorem ranged : f.Ranged := ((lawful_iff f).mp h).2

theorem monitored : f.Monitored := ((lawful_iff f).mp h).1

/-- Checker and counter are no concern of the monitor. -/
theorem setCounts {checker : CheckerState} {runCount blockPos blockErrors count : Nat} {countOver : Bool}
    (hr : runCount ≤ 8) (hp : blockPos ≤ 63) (he : blockErrors ≤ 7) (hc : count ≤ 65535) :
    FrontEnd.Lawful { f with
      checker := checker, runCount := runCount, blockPos := blockPos, blockErrors := blockErrors, count := count
      countOver := countOver } := by
  obtain ⟨monitor, slate, acq, miss, capture, -, snap, -, -, -, hold⟩ := h
  exact ⟨monitor, slate, acq, miss, capture, hc, snap, hr, hp, he, hold⟩

theorem counts : f.runCount ≤ 8 ∧ f.blockPos ≤ 63 ∧ f.blockErrors ≤ 7 ∧ f.count ≤ 65535 := by
  obtain ⟨-, -, -, -, -, count, -, run, pos, errors, -⟩ := h
  exact ⟨run, pos, errors, count⟩

theorem countEvent (k : CounterKind) : (f.countEvent k).Lawful := by
  obtain ⟨run, pos, errors, count⟩ := h.counts
  rw [countEvent_eq]
  refine h.setCounts run pos errors ?_
  split
  · split <;> omega
  · exact count

theorem enterHunt : f.enterHunt.Lawful :=
  h.setCounts (Nat.zero_le _) (Nat.zero_le _) (Nat.zero_le _) h.counts.2.2.2

theorem loseSync : f.loseSync.Lawful := by
  unfold FrontEnd.loseSync
  split
  · exact h.enterHunt
  · exact h

theorem lose : f.lose.Lawful := by
  have departed : (if f.monitor = .present then f.depart else f).Ranged := by
    split
    · exact h.ranged.depart
    · exact h.ranged
  exact departed.enterLost.loseSync

theorem huntLine (good : Bool) : (f.huntLine good).Lawful := by
  obtain ⟨run, pos, errors, count⟩ := h.counts
  unfold FrontEnd.huntLine
  split
  · split
    · exact h.setCounts (by omega) pos errors count
    · exact h.setCounts (Nat.zero_le _) (Nat.zero_le _) (Nat.zero_le _) count
  · exact h.setCounts (Nat.zero_le _) pos errors count

theorem syncLine (good : Bool) : (f.syncLine good).Lawful := by
  obtain ⟨run, pos, errors, count⟩ := h.counts
  have counted := h.countEvent .checkErrors
  obtain ⟨run', -, -, count'⟩ := counted.counts
  unfold FrontEnd.syncLine
  cases good with
  | true =>
    simp only [if_true]
    split
    · exact h.enterHunt
    · split
      · exact h.setCounts run (Nat.zero_le _) (Nat.zero_le _) count
      · exact h.setCounts run (by omega) errors count
  | false =>
    simp only [Bool.false_eq_true, if_false]
    split
    · exact counted.enterHunt
    · split
      · exact counted.setCounts run' (Nat.zero_le _) (Nat.zero_le _) count'
      · exact counted.setCounts run' (by omega) (by omega) count'

theorem judgeLine (good : Bool) : (f.judgeLine good).Lawful := by
  unfold FrontEnd.judgeLine
  split
  · exact h
  · exact h.huntLine good
  · exact h.syncLine good

theorem validFrame (form : Format) : (f.validFrame form).Lawful := by
  unfold FrontEnd.validFrame
  split
  · exact h.ranged.enterAcquiring form
  · next hm =>
    split
    · split
      · split
        · exact h.ranged.enterPresent _
        · next hlt =>
          have below := criterion_m_le f.criterion
          obtain ⟨candidate, -, -, miss⟩ := (monitored_acquiring hm).mp h.monitored
          obtain ⟨slate, -, counts⟩ := h.ranged
          exact lawful_acquiring hm ⟨candidate, Nat.le_add_left 1 _, nofun, miss⟩
            ⟨slate, (Nat.lt_of_not_le hlt).le.trans below, counts⟩
      · exact h.ranged.enterAcquiring form
    · exact h.ranged.enterAcquiring form
  · next hm =>
    split
    · split
      · obtain ⟨candidate, latched, acq, -, idle⟩ := (monitored_present hm).mp h.monitored
        obtain ⟨slate, acqs, -, counts⟩ := h.ranged
        exact lawful_present hm ⟨candidate, latched, acq, nofun, idle⟩ ⟨slate, acqs, Nat.zero_le _, counts⟩
      · exact h.ranged.depart.enterAcquiring form
    · exact h.ranged.depart.enterAcquiring form

/-- A miss that is not the last one. -/
theorem miss (hm : f.monitor = .present) (hn : f.missCount + 1 < f.criterion.n) :
    FrontEnd.Lawful
      { f with missCount := f.missCount + 1, missLeft := f.latched.map fun c => missInterval c.period } := by
  have below := criterion_n_le f.criterion
  obtain ⟨candidate, latched, acq, -, idle⟩ := (monitored_present hm).mp h.monitored
  obtain ⟨slate, acqs, -, counts⟩ := h.ranged
  exact lawful_present hm ⟨candidate, latched, acq, by simpa using latched, idle⟩ ⟨slate, acqs, hn.le.trans below, counts⟩

/-- In PRESENT the slate is IDLE. -/
theorem idle (hm : f.monitor = .present) : f.slate = .idle := by
  obtain ⟨-, -, -, -, idle⟩ := (monitored_present hm).mp h.monitored
  exact idle

/-- A slate whose timer runs exactly while it holds, and that is IDLE in PRESENT, keeps the law. -/
theorem setSlateState {slate : SlateState} {timer : HoldTimer} (hs : slate = .holding ↔ timer ≠ .stopped)
    (hm : f.monitor = .present → slate = .idle) : FrontEnd.Lawful { f with slate := slate, slateTimer := timer } := by
  obtain ⟨-, counts⟩ := h.ranged
  refine (lawful_iff _).mpr ⟨?_, hs, counts⟩
  have monitored := h.monitored
  unfold FrontEnd.Monitored at monitored ⊢
  cases hc : f.monitor with
  | lost => rwa [hc] at monitored
  | acquiring => rwa [hc] at monitored
  | present =>
    rw [hc] at monitored
    obtain ⟨candidate, latched, acq, miss, -⟩ := monitored
    exact ⟨candidate, latched, acq, miss, hm hc⟩

theorem slateExpiry : f.slateExpiry.Lawful := by
  unfold FrontEnd.slateExpiry
  split
  · next hs _ => exact h.setSlateState (by simp) fun hm => nomatch hs.symm.trans (h.idle hm)
  · exact h

theorem slateSet (x : InputSettings) :
    ((f.slateSet x).1 = .holding ↔ (f.slateSet x).2 ≠ .stopped) ∧ (f.monitor = .present → (f.slateSet x).1 = .idle) := by
  obtain ⟨slate, -⟩ := h.ranged
  have notIdle {state : SlateState} (hs : f.slate = state) (hne : state ≠ .idle) : f.monitor ≠ .present :=
    fun hm => hne (hs.symm.trans (h.idle hm))
  unfold FrontEnd.slateSet
  split
  · next c => exact ⟨by simp, fun hm => absurd hm (notIdle c.2.2 nofun)⟩
  · split
    · next c => exact ⟨by simp [holdTimer_ne_stopped], fun hm => absurd hm c.2.2.2⟩
    · split
      · next c => exact ⟨by simp [holdTimer_ne_stopped], fun hm => absurd hm (notIdle c.2.1 nofun)⟩
      · exact ⟨slate, h.idle⟩

theorem setHoldTime {seconds : Nat} (hx : seconds ≤ 60) : FrontEnd.Lawful { f with holdTime := seconds } := by
  obtain ⟨monitor, slate, acq, miss, capture, count, snap, run, pos, errors, -⟩ := h
  exact ⟨monitor, slate, acq, miss, capture, count, snap, run, pos, errors, hx⟩

theorem setSlate {x : InputSettings} (hx : x.holdTime ≤ 60) : (f.setSlate x).Lawful := by
  obtain ⟨timer, present⟩ := h.slateSet x
  rw [setSlate_eq]
  exact (h.setSlateState timer present).setHoldTime hx

theorem reconnect (lp : Option ScreenIx) : (f.reconnect lp).Lawful := h

theorem setLoop (lp : Option ScreenIx) : (f.setLoop lp).Lawful := by
  unfold FrontEnd.setLoop
  split
  · exact h
  · split
    · exact (h.reconnect lp).loseSync
    · exact (h.reconnect lp).lose

theorem setChecker (on : Bool) : (f.setChecker on).Lawful := by
  have off : FrontEnd.Lawful { f with checker := .off, runCount := 0, blockPos := 0, blockErrors := 0 } :=
    h.setCounts (Nat.zero_le _) (Nat.zero_le _) (Nat.zero_le _) h.counts.2.2.2
  unfold FrontEnd.setChecker
  split
  · split
    · exact h.enterHunt
    · exact h
    · exact h
  · split
    · exact h
    · exact off
    · exact off

theorem setCounterKind (k : CounterKind) : (f.setCounterKind k).Lawful := by
  obtain ⟨run, pos, errors, -⟩ := h.counts
  unfold FrontEnd.setCounterKind
  split
  · exact h
  · exact h.setCounts (checker := f.checker) (countOver := false) run pos errors (Nat.zero_le _)

theorem applySettings {x : InputSettings} (hx : x.holdTime ≤ 60) : (f.applySettings x).Lawful :=
  have slated : FrontEnd.Lawful { f.setSlate x with criterion := x.criterion } := h.setSlate hx
  ((slated.setLoop x.loop).setChecker x.checkerOn).setCounterKind x.counterKind

/-- Timers that run stay running while time passes, at 0 at the end. -/
theorem elapse (n ms : Nat) : (FrontEnd.elapse n ms f).Lawful := by
  have timer : f.slateTimer.elapse ms ≠ .stopped ↔ f.slateTimer ≠ .stopped := by cases f.slateTimer <;> simp [HoldTimer.elapse]
  obtain ⟨slate, counts⟩ := h.ranged
  refine (lawful_iff _).mpr ⟨?_, slate.trans timer.symm, counts⟩
  have monitored := h.monitored
  unfold FrontEnd.Monitored at monitored ⊢
  unfold FrontEnd.elapse
  cases hc : f.monitor with
  | lost => rw [hc] at monitored; simpa using monitored
  | acquiring => rw [hc] at monitored; simpa using monitored
  | present => rw [hc] at monitored; simpa using monitored

theorem takeSnapshot : f.takeSnapshot.Lawful := by
  obtain ⟨monitor, slate, acq, miss, capture, count, -, rest⟩ := h
  exact ⟨monitor, slate, acq, miss, capture, Nat.zero_le _, count, rest⟩

theorem capture : f.capture.Lawful := by
  obtain ⟨monitor, slate, acq, miss, -, rest⟩ := h
  exact ⟨monitor, slate, acq, miss, Nat.mod_lt _ (by decide), rest⟩

end FrontEnd.Lawful

theorem frontLaw_kept : frontLaw.Kept where
  frontPowerOn := powerOn_front_lawful
  setFrame _ _ h := h
  begins _ _ _ h := h
  capture _ h := h.capture
  countEvent _ k h := h.countEvent k
  judgeLine _ good h := h.judgeLine good
  validFrame _ form h := h.validFrame form
  takeAudio f audio h := by
    cases audio <;> exact h
  lose _ h := h.lose
  miss _ h hm hn := h.miss hm hn
  slateExpiry _ h := h.slateExpiry
  applySettings _ _ _ hx h := h.applySettings hx.1
  elapse _ n ms h := h.elapse n ms
  takeSnapshot _ h := h.takeSnapshot
  popAudio _ h := h
  zonePowerOn := trivial
  rotate _ _ := trivial
  sampleZone _ _ _ := trivial
  writeZone _ _ _ := trivial
  resetZone _ _ := trivial
  detectorPowerOn := trivial
  judge _ _ := trivial
  sampleDetector _ _ _ := trivial
  setDetector _ _ _ := trivial
  readEdit _ _ _ hlen he := readEdit_inRange hlen he

/-- Settles O57: every event keeps what a front end holds, and an accepted SET_INPUT is in range. -/
theorem everyStepKeepsTheFrontLaw : Obligations.EveryStepKeepsTheFrontLaw := fun s t hs h =>
  (frontLaw_iff t).mpr (frontLaw_kept.step ((frontLaw_iff s).mp hs) h)

end Sys2Proof.Machine
end

section
/-! PROOF. Frame starts, lines and frame ends of an input, whatever its loop selection (R81 to R90, R94 to R98, R103 to R106). -/

namespace Sys2Proof.Machine

/-! ## The commands of an input without a loop (R92) -/

section Connector
variable {i : InputIx} {s : State} (h : (s.fronts.get i).loop = none)
include h

theorem exec_frameStart_connector (wait : Nat) : exec (.frameStart i wait) s = .next ((s.elapse wait).frameStart i) :=
  if_pos ((loop_elapse i s wait).trans h)

theorem exec_activeLine_connector (pixels : List Colour) : exec (.activeLine i pixels) s = .next (s.activeLine i pixels) := by
  simp only [exec, execActiveLine, h]

theorem exec_frameEnd_connector (audio : Option (List Stereo)) :
    exec (.frameEnd i audio) s = .next (s.frameEnd i audio) := by
  simp only [exec, execFrameEnd, h]

end Connector

/-! ## The ring beside the frame in progress -/

/-- The two cases of the slot of a frame in progress: without one the rings stand, and one is freed (R105). -/
theorem rings_freed_cases {s : State} {i : InputIx} {slot : Option SlotIx} {rings : Table Ring 12}
    (h : rings = s.rings.set i ((s.rings.get i).freed slot)) :
    (slot = none → rings = s.rings) ∧
      ∀ n, slot = some n → rings = s.rings.set i { s.rings.get i with slots := (s.rings.get i).slots.set n Slot.free } := by
  constructor
  · rintro rfl
    rw [h, freed_none, Table.set_get_self]
  · rintro n rfl
    exact h

theorem slot_of_frame {f : FrontEnd} {x : FrameInProgress} (h : f.frame = some x) : f.slot = x.slot := by
  rw [FrontEnd.slot, h, Option.bind_some]

/-- An event of one input leaves the front ends of the others. -/
theorem OnlyInputs.other {s t : State} {i : InputIx} (h : OnlyInputs (· = i) s t) (j : InputIx) (hj : j ≠ i) :
    t.fronts.get j = s.fronts.get j := (h.2 j hj).1

/-! ## Frame starts -/

theorem front_completeInvalid (i : InputIx) (s : State) : (s.completeInvalid i).fronts.get i = (s.fronts.get i).invalid := by
  rw [completeInvalid_eq, State.fronts_setFront, Table.get_set_self]

theorem rings_completeInvalid {i : InputIx} {s : State} {x : FrameInProgress} (hx : (s.fronts.get i).frame = some x) :
    (s.completeInvalid i).rings = s.rings.set i ((s.rings.get i).freed x.slot) := by
  rw [completeInvalid_eq, State.rings_setFront, slot_of_frame hx]
  rfl

/-- A frame completed as invalid writes front ends and rings alone. -/
theorem completeInvalid_rest (i : InputIx) (s : State) :
    s.completeInvalid i = { s with fronts := (s.completeInvalid i).fronts, rings := (s.completeInvalid i).rings } := by
  rw [completeInvalid_eq]
  rfl

theorem invalid_eq (f : FrontEnd) :
    f.invalid =
      { f with
        frame := none
        count := if f.counterKind = .invalidFrames then (if f.count < 65535 then f.count + 1 else 65535) else f.count
        countOver := f.countOver || (f.counterKind == .invalidFrames && decide (65535 ≤ f.count)) } := by
  rw [FrontEnd.invalid, countEvent_eq]

/-- A frame start without a frame in progress writes front ends and rings alone. -/
theorem openFrame_rest (i : InputIx) (s : State) :
    s.openFrame i = { s with fronts := (s.openFrame i).fronts, rings := (s.openFrame i).rings } :=
  (State.openFrame_frame i s).rest_of_links fun k => (startFree_link k _).openFrame rfl i

/-- No slot is FREE where none is found. -/
theorem freeSlot_none {r : Ring} (h : ∀ n, (r.slots.get n).state ≠ .free) : r.freeSlot = none := by
  rw [Ring.freeSlot, Table.lowest, List.find?_eq_none]
  intro n _
  simpa using h n

/-- Settles O36: a frame in progress is completed as invalid, and then a frame begins as the monitor and the ring have it. -/
theorem frameStartAsksForASlot : Obligations.FrameStartAsksForASlot := by
  intro s i f count countOver
  refine ⟨fun wait hloop => exec_frameStart_connector hloop wait, fun x hx => ?truncated, fun hframe => ?begun⟩
  case truncated =>
    intro v
    have gone : (v.fronts.get i).frame = none := by rw [front_completeInvalid]; rfl
    obtain ⟨unslotted, slotted⟩ := rings_freed_cases (rings_completeInvalid hx)
    refine ⟨?_, completeInvalid_rest i s, ?_, unslotted, slotted, (State.completeInvalid_frame i s).other⟩
    · rw [frameStart_in_frame hx, frameStart_no_frame gone]
    · rw [front_completeInvalid, invalid_eq]
  case begun =>
    intro t seq begun
    have opened : t = s.openFrame i := frameStart_no_frame hframe
    rw [opened]
    refine ⟨openFrame_rest i s, (State.openFrame_frame i s).other, fun habsent => ?_, fun n hpresent hn => ?_,
      fun hpresent hfull => ?_⟩
    · rw [openFrame_absent habsent]
      exact ⟨Table.get_set_self _ _ _, rfl⟩
    · rw [openFrame_filled hpresent hn]
      exact ⟨Table.get_set_self _ _ _, rfl⟩
    · rw [openFrame_dropped hpresent (freeSlot_none hfull), countEvent_eq]
      exact ⟨Table.get_set_self _ _ _, rfl⟩

/-! ## Lines -/

/-- A front end after a line, with what the line counts written out. -/
theorem takeLine_eq (f : FrontEnd) (x : FrameInProgress) (pixels : List Colour) :
    let first := x.firstWidth.getD pixels.length
    let counts : Bool := f.counterKind == .lineErrors && decide (pixels.length ≠ first)
    f.takeLine x pixels =
      { f with
        frame := some { x with
          firstWidth := some first, lines := x.lines + 1, lineError := x.lineError || decide (pixels.length ≠ first) }
        count := if counts then (if f.count < 65535 then f.count + 1 else 65535) else f.count
        countOver := f.countOver || (counts && decide (65535 ≤ f.count)) } := by
  intro first counts
  have marked : decide (pixels.length ≠ first) = !x.sameWidth pixels := decide_not
  simp only [FrontEnd.takeLine, FrameInProgress.takeLine, counts, marked]
  cases x.sameWidth pixels with
  | true => simp [first]
  | false =>
    rw [countEvent_eq]
    simp [first]

theorem rings_activeLine {i : InputIx} {s : State} {x : FrameInProgress} (hx : (s.fronts.get i).frame = some x)
    (pixels : List Colour) :
    (s.activeLine i pixels).rings = s.rings.set i ((s.rings.get i).written pixels x.slot) := by
  rw [activeLine_eq i s hx, rings_checkLine]
  rfl

/-- Settles O37: the line is written and counted, and then judged. -/
theorem activeLineIsJudgedAndWritten : Obligations.ActiveLineIsJudgedAndWritten := by
  intro s i pixels f
  refine ⟨fun hloop => ⟨exec_activeLine_connector hloop pixels, exec_frameEnd_connector hloop⟩,
    fun hframe => ⟨activeLine_no_frame i s pixels hframe, fun audio => frameEnd_no_frame i s audio hframe⟩, fun x hx => ?_⟩
  intro first counts t u
  have rings : t.rings = s.rings.set i ((s.rings.get i).written pixels x.slot) := rings_activeLine hx pixels
  refine ⟨?_, fun hn => ?_, fun n hn => ?_⟩
  · simp only [t, u]
    rw [rings_activeLine hx, activeLine_eq i s hx, takeLine_eq]
    rfl
  · rw [rings, hn, Ring.written, Table.set_get_self]
  · rw [rings, hn]
    rfl

/-! ## The path checker -/

/-- A pixel of the check ramp (R94). -/
theorem eq_rampPixel_iff (p : Colour) (c row : Nat) :
    p = rampPixel c row ↔
      p.r.toNat = (c + 4 * row) % 1024 ∧ p.g.toNat = (c + 4 * row) % 1024 ∧ p.b.toNat = (c + 4 * row) % 1024 := by
  have component (x : Component) : x = BitVec.ofNat 10 ((c + 4 * row) % 1024) ↔ x.toNat = (c + 4 * row) % 1024 := by
    rw [← BitVec.toNat_inj, BitVec.toNat_ofNat, Nat.mod_mod_of_dvd _ (by decide)]
  obtain ⟨r, g, b⟩ := p
  rw [rampPixel, Colour.mk.injEq, component, component, component]

theorem rampLine_iff (row : Nat) (pixels : List Colour) :
    rampLine row pixels = true ↔ ∀ (c : Nat) (p : Colour), pixels[c]? = some p → p = rampPixel c row := by
  rw [rampLine, beq_iff_eq, List.ext_getElem_iff]
  simp [List.getElem?_eq_some_iff]

section Judge
variable {f : FrontEnd}

/-- A checker that is OFF judges nothing. -/
theorem judgeLine_off (h : f.checker = .off) (good : Bool) : f.judgeLine good = f := by
  rw [FrontEnd.judgeLine, h]

/-- A line in HUNT (R94). -/
theorem judgeLine_hunt (h : f.checker = .hunt) (good : Bool) :
    f.judgeLine good =
      if good = false then { f with runCount := 0 }
      else if 7 ≤ f.runCount then { f with checker := .sync, runCount := 0, blockPos := 0, blockErrors := 0 }
      else { f with runCount := f.runCount + 1 } := by
  have eighth : f.runCount + 1 < 8 ↔ ¬ 7 ≤ f.runCount := by omega
  have judged : f.judgeLine good = f.huntLine good := by simp only [FrontEnd.judgeLine, h]
  rw [judged, FrontEnd.huntLine]
  cases good with
  | false => rfl
  | true =>
    simp only [eighth, if_true, Bool.true_eq_false, if_false]
    rw [ite_not]

/-- A front end whose check error is counted, if the line is one. -/
def FrontEnd.countCheck (f : FrontEnd) (good : Bool) : FrontEnd :=
  let counts : Bool := !good && f.counterKind == .checkErrors
  { f with
    count := if counts then (if f.count < 65535 then f.count + 1 else 65535) else f.count
    countOver := f.countOver || (counts && decide (65535 ≤ f.count)) }

/-- A line in SYNC (R95). -/
theorem judgeLine_sync (h : f.checker = .sync) (good : Bool) :
    let errors := if good = true then f.blockErrors else f.blockErrors + 1
    f.judgeLine good =
      if 7 ≤ errors then (f.countCheck good).enterHunt
      else if 63 ≤ f.blockPos then { f.countCheck good with blockPos := 0, blockErrors := 0 }
      else { f.countCheck good with blockPos := f.blockPos + 1, blockErrors := errors } := by
  intro errors
  have judged : f.judgeLine good = f.syncLine good := by simp only [FrontEnd.judgeLine, h]
  have counted : (if good then f else { f.countEvent .checkErrors with blockErrors := f.blockErrors + 1 }) =
      { f.countCheck good with blockErrors := errors } := by
    cases good with
    | true => simp [FrontEnd.countCheck, errors]
    | false =>
      rw [countEvent_eq]
      simp [FrontEnd.countCheck, errors]
  rw [judged, FrontEnd.syncLine, counted]
  rfl

end Judge

/-- The eighth matching line in a row takes HUNT to SYNC. -/
theorem checker_judgeLine_hunt {f : FrontEnd} (h : f.checker = .hunt) (good : Bool) :
    (f.judgeLine good).checker = if good = true ∧ 7 ≤ f.runCount then .sync else .hunt := by
  rw [judgeLine_hunt h]
  cases good with
  | false => simp [h]
  | true =>
    simp only [Bool.true_eq_false, if_false, true_and]
    split
    · rfl
    · exact h

/-- The seventh error of a block takes SYNC to HUNT. -/
theorem checker_judgeLine_sync {f : FrontEnd} (h : f.checker = .sync) (good : Bool) :
    (f.judgeLine good).checker =
      if 7 ≤ (if good = true then f.blockErrors else f.blockErrors + 1) then .hunt else .sync := by
  rw [judgeLine_sync h]
  generalize (if good = true then f.blockErrors else f.blockErrors + 1) = errors
  simp only
  split
  · rfl
  · split <;> exact h

/-- A raise that is no loss is latched where the edge mode is ANY (R173). -/
theorem latchIf_admits_false (e : EventState) (m : LossMode) (kind : EventKind) (index : Option Nat) :
    e.latchIf (m.admits false) kind index = if m = .any then e.latch kind index else e := by
  cases m <;> rfl

section Told
variable (i : InputIx) (s : State) (good : Bool) (k : Link)

/-- A checker that is OFF tells nothing. -/
theorem link_checkLine_off (h : (s.fronts.get i).checker = .off) : (s.checkLine i good).link k = s.link k := by
  rw [link_checkLine, judgeLine_off h, if_pos rfl]

/-- An entry to SYNC is told where the edge mode is ANY (R94, R173). -/
theorem link_checkLine_hunt (h : (s.fronts.get i).checker = .hunt) :
    (s.checkLine i good).link k =
      if (good = true ∧ 7 ≤ (s.fronts.get i).runCount) ∧ (s.link k).events.checkMode = .any then
        { s.link k with events := (s.link k).events.latch .checkSync (some i.val) }
      else s.link k := by
  rw [link_checkLine, checker_judgeLine_hunt h, h]
  by_cases hf : good = true ∧ 7 ≤ (s.fronts.get i).runCount
  · have gained : (CheckerState.hunt == .sync) = false := rfl
    rw [if_pos hf, if_neg nofun, gained, latchIf_admits_false]
    simp only [hf, and_self, true_and]
    split <;> rfl
  · rw [if_neg hf, if_pos rfl, if_neg fun c => hf c.1]

/-- A loss of sync is told on both links (R95, R173). -/
theorem link_checkLine_sync (h : (s.fronts.get i).checker = .sync) :
    (s.checkLine i good).link k =
      if 7 ≤ (if good = true then (s.fronts.get i).blockErrors else (s.fronts.get i).blockErrors + 1) then
        { s.link k with events := (s.link k).events.latch .checkSync (some i.val) }
      else s.link k := by
  rw [link_checkLine, checker_judgeLine_sync h, h, beq_self_eq_true, admits_true]
  generalize (if good = true then (s.fronts.get i).blockErrors else (s.fronts.get i).blockErrors + 1) = errors
  split
  · rw [if_neg nofun]
    rfl
  · rw [if_pos rfl]

end Told

/-- Settles O39: a line's judgement in each state of the checker, and what the links hear of it. -/
theorem checkerFindsAndLosesSync : Obligations.CheckerFindsAndLosesSync := by
  refine ⟨fun row pixels => ?ramp, fun s i good => ?judged, fun s i pixels x hx => ?line⟩
  case ramp =>
    rw [rampLine_iff]
    simp only [eq_rampPixel_iff]
  case judged =>
    intro f t errors counts judged hunting found lost
    refine ⟨?_, ?_, fun l => ?_⟩
    · have rest := (State.checkLine_frame i s good).rest
      rw [rings_checkLine, fronts_checkLine] at rest
      simp only [t]
      rw [fronts_checkLine, Table.get_set_self]
      exact rest
    · have front : t.fronts.get i = f.judgeLine good := by
        simp only [t]
        rw [fronts_checkLine, Table.get_set_self]
      rw [front]
      split
      · next h => exact judgeLine_off h good
      · next h => exact judgeLine_hunt h good
      · next h => exact judgeLine_sync h good
    · have states : (s.fronts.get i).checker = .off ∨ (s.fronts.get i).checker = .hunt ∨
          (s.fronts.get i).checker = .sync := by
        cases (s.fronts.get i).checker <;> simp
      rcases states with hc | hc | hc
      · rw [link_checkLine_off i s good l hc]
        simp [lost, found, f, hc]
      · rw [link_checkLine_hunt i s good l hc]
        simp [lost, found, f, hc]
      · rw [link_checkLine_sync i s good l hc]
        simp [lost, found, errors, f, hc]
  case line =>
    have judged := activeLine_eq i s hx pixels
    refine ⟨_, judged, fun hloop => ?_, rfl, ?_, fun j hj => ?_⟩
    · rw [exec_activeLine_connector hloop, judged]
    · rw [State.fronts_setFront, Table.get_set_self, takeLine_eq]
    · rw [State.fronts_setFront, Table.get_set_of_ne _ _ (Ne.symm hj)]
      rfl

/-! ## Frames that complete invalid -/

/-- A frame is valid where its lines have one width and width, height and period are in range (R82). -/
theorem validFormat_eq_some_iff {x : FrameInProgress} {form : Format} :
    x.validFormat = some form ↔
      (x.firstWidth = some form.width ∧ x.lines = form.height ∧ x.period = some form.period) ∧
      x.lineError = false ∧ 640 ≤ form.width ∧ form.width ≤ 1920 ∧ 360 ≤ form.height ∧ form.height ≤ 1080 ∧
        432000 ≤ form.period ∧ form.period ≤ 1134000 := by
  obtain ⟨w, h, p⟩ := form
  unfold FrameInProgress.validFormat
  split
  · next w' p' hw hp =>
    rw [hw, hp, Option.ite_none_right_eq_some, Option.some.injEq, Option.some.injEq, Option.some.injEq, Format.mk.injEq]
    constructor
    · rintro ⟨valid, rfl, rfl, rfl⟩
      exact ⟨⟨rfl, rfl, rfl⟩, valid⟩
    · rintro ⟨⟨rfl, rfl, rfl⟩, valid⟩
      exact ⟨valid, rfl, rfl, rfl⟩
  · next hnone =>
    simp only [reduceCtorEq, false_iff]
    rintro ⟨⟨hw, -, hp⟩, -⟩
    exact hnone _ _ hw hp

/-- Settles O40: the ranges of a valid frame, and the completion of one that is not. -/
theorem invalidFrameIsAbandoned : Obligations.InvalidFrameIsAbandoned := by
  refine ⟨fun x => ⟨?_, fun got hgot => ?_⟩, fun s i audio x hx hv => ?_⟩
  · rw [Option.eq_none_iff_forall_ne_some]
    simp only [ne_eq, validFormat_eq_some_iff]
    constructor
    · rintro none ⟨w, p, hw, hp, valid⟩
      exact none ⟨w, x.lines, p⟩ ⟨⟨hw, rfl, hp⟩, valid⟩
    · rintro none ⟨w, h, p⟩ ⟨⟨hw, hh, hp⟩, valid⟩
      exact none ⟨w, p, hw, hp, hh ▸ valid⟩
  · exact (validFormat_eq_some_iff.mp hgot).1
  · intro f counts t
    have ended : t = s.completeInvalid i := frameEnd_invalid hx audio hv
    obtain ⟨unslotted, slotted⟩ := rings_freed_cases (rings_completeInvalid hx)
    refine ⟨fun hloop => exec_frameEnd_connector hloop audio, ?_⟩
    rw [ended]
    refine ⟨completeInvalid_rest i s, ?_, unslotted, slotted, (State.completeInvalid_frame i s).other⟩
    rw [front_completeInvalid, invalid_eq]
    simp [counts, f]

/-! ## The monitor at a valid frame (R83 to R86, R90) -/

/-- A frame matches a format of its width and height within 2 % of its period (R83). -/
theorem matched_iff (c got : Format) :
    c.matched got = true ↔
      got.width = c.width ∧ got.height = c.height ∧ 50 * ((got.period : Int) - c.period).natAbs ≤ c.period := by
  have apart : distance got.period c.period = ((got.period : Int) - c.period).natAbs := by
    unfold distance
    omega
  simp [Format.matched, apart, and_assoc]

section ValidFrame
variable {f : FrontEnd} (form : Format)

theorem validFrame_lost (h : f.monitor = .lost) : f.validFrame form = f.enterAcquiring form := by
  rw [FrontEnd.validFrame, h]

/-- A match in ACQUIRING is counted, and the M-th declares the input PRESENT (R84, R85). -/
theorem validFrame_match {c : Format} (h : f.monitor = .acquiring) (hc : f.candidate = some c)
    (hm : c.matched form = true) :
    f.validFrame form =
      if f.criterion.m ≤ f.acqCount + 1 then f.enterPresent c
      else { f with acqCount := f.acqCount + 1, acqTimer := some 50 } := by
  simp only [FrontEnd.validFrame, h, hc, hm, if_true]
  rfl

/-- A frame in ACQUIRING that does not match is the new candidate (R85). -/
theorem validFrame_candidate {c : Format} (h : f.monitor = .acquiring) (hc : f.candidate = some c)
    (hm : c.matched form = false) : f.validFrame form = f.enterAcquiring form := by
  simp [FrontEnd.validFrame, h, hc, hm]

/-- A match in PRESENT restarts the miss interval (R86). -/
theorem validFrame_present {c : Format} (h : f.monitor = .present) (hc : f.latched = some c) (hm : c.matched form = true) :
    f.validFrame form = { f with missCount := 0, missLeft := some (c.period * 5 / 4) } := by
  simp only [FrontEnd.validFrame, h, hc, hm, if_true]
  rfl

/-- A frame in PRESENT that does not match leaves it (R86, R90). -/
theorem validFrame_left (h : f.monitor = .present) (hc : ¬ ∃ c, f.latched = some c ∧ c.matched form = true) :
    f.validFrame form = f.depart.enterAcquiring form := by
  simp only [FrontEnd.validFrame, h]
  cases hl : f.latched with
  | none => rfl
  | some c =>
    have hm : c.matched form = false := by
      rw [← Bool.not_eq_true]
      exact fun hm => hc ⟨c, hl, hm⟩
    simp [hm]

/-- A frame is kept only where it matches the latched format in PRESENT. -/
theorem keepsFrame_false (x : FrameInProgress) (h : ¬ (f.monitor = .present ∧ ∃ c, f.latched = some c ∧ c.matched form = true)) :
    f.keepsFrame x form = false := by
  by_cases hp : f.monitor = .present
  · have left := validFrame_left form hp fun hc => h ⟨hp, hc⟩
    simp [FrontEnd.keepsFrame, left, FrontEnd.enterAcquiring]
  · simp [FrontEnd.keepsFrame, hp]

end ValidFrame

/-! ## Frames that are kept -/

/-- A publication makes its slot READY at its raster, frees the slot that was newest-ready when no window reads it, and leaves the others (R104, R106). -/
theorem slot_publish (r : Ring) {n : SlotIx} (w h : Nat) (hn : r.newest ≠ some n) :
    (r.publish n w h).slots.get n = { r.slots.get n with state := .ready, width := w, height := h } ∧
      ∀ m, m ≠ n → (r.publish n w h).slots.get m =
        if r.newest = some m ∧ (r.slots.get m).readers = 0 then Slot.free else r.slots.get m := by
  unfold Ring.publish
  cases hnew : r.newest with
  | none =>
    refine ⟨Table.get_modify_self _ _ _, fun m hm => ?_⟩
    rw [if_neg (by simp)]
    exact Table.get_modify_of_ne _ _ (Ne.symm hm)
  | some old =>
    have hold : n ≠ old := fun e => hn (e ▸ hnew)
    simp only
    constructor
    · rw [freeIfUnread_slot, if_neg fun c => hold c.1.symm]
      exact Table.get_modify_self _ _ _
    · intro m hm
      rw [freeIfUnread_slot]
      by_cases he : old = m
      · subst he
        simp [Table.get_modify_of_ne _ _ hold, hold]
      · rw [if_neg fun c => he c.1, if_neg fun c => he (Option.some.inj c.1)]
        exact Table.get_modify_of_ne _ _ (Ne.symm hm)

/-- Settles O41: the hand-off of a frame that is kept. -/
theorem matchingFrameIsPublished : Obligations.MatchingFrameIsPublished := by
  refine ⟨matched_iff, fun s i audio x got latched hx hv hpresent hlatched hmatch hstarted => ?_⟩
  intro t
  have valid := validFrame_present got hpresent hlatched hmatch
  have keeps : (s.fronts.get i).keepsFrame x got = true := by
    simp [FrontEnd.keepsFrame, valid, hpresent, hstarted]
  have ended := frameEnd_kept hx audio hv keeps
  have rings : t.rings = s.rings.set i ((s.rings.get i).published x.slot (some latched)) := by
    simp only [t]
    rw [ended, valid, hlatched]
    rfl
  refine ⟨fun hloop => exec_frameEnd_connector hloop audio, ?_, ?_, fun hn => ?_, fun n hn hnew => ?_, fun j hj => ?_⟩
  · simp only [t]
    rw [ended]
    rfl
  · simp only [t]
    rw [ended, State.fronts_setFront, Table.get_set_self, valid]
    cases audio <;> rfl
  · rw [rings, hn, Ring.published, Table.set_get_self]
  · obtain ⟨ready, others⟩ := slot_publish (s.rings.get i) latched.width latched.height hnew
    rw [rings, hn, Table.get_set_self]
    exact ⟨newest_publish _ _ _ _, ready, others⟩
  · rw [rings, Table.get_set_of_ne _ _ (Ne.symm hj)]
    exact ⟨rfl, (State.frameEnd_frame i s audio).other j hj⟩

/-! ## Frames that are not -/

/-- What a monitor that has moved, not to LOST, tells a link: INPUT_STATE where the edge mode is ANY, RASTER_CHANGE at a departure. -/
theorem toldMonitor_of_ne {e : EventState} {i : InputIx} {before now : MonitorState} (hne : before ≠ now) (hnow : now ≠ .lost) :
    e.toldMonitor i before now =
      (if e.inputMode = .any then e.latch .inputState (some i.val) else e).latchIf
        (decide (before = .present ∧ now = .acquiring)) .rasterChange (some i.val) := by
  rw [EventState.toldMonitor, if_neg hne, beq_false_of_ne hnow, latchIf_admits_false]

/-- Settles O42: the frame is abandoned, and each move of the monitor is one case of `validFrame`. -/
theorem monitorFollowsValidFrames : Obligations.MonitorFollowsValidFrames := by
  intro s i audio x got hx hv f m told candidate t
  have front (h : ¬ (f.monitor = .present ∧ ∃ c, f.latched = some c ∧ c.matched got = true)) :
      t.fronts.get i = { f.validFrame got with frame := none } := by
    simp only [t]
    rw [(frameEnd_abandoned hx audio hv (keepsFrame_false got x h)).1, Table.get_set_self]
  have link (k : Link) : t.link k =
      { s.link k with events := (s.link k).events.toldMonitor i f.monitor (f.validFrame got).monitor } :=
    link_frameEnd hx audio hv k
  have criterion : f.criterion.m = m := by
    simp only [m]
    cases f.criterion <;> rfl
  refine ⟨fun hloop => exec_frameEnd_connector hloop audio, fun h => ?abandoned, fun hlost => ?lost,
    fun c hacq hc hmatch => ⟨fun hlast => ?present, fun hmore => ?counted⟩, fun c hacq hc hmatch => ?candidate,
    fun c hpresent hc hmatch => ?left⟩
  case abandoned =>
    obtain ⟨unslotted, slotted⟩ := rings_freed_cases (frameEnd_abandoned hx audio hv (keepsFrame_false got x h)).2
    exact ⟨(State.frameEnd_frame i s audio).rest, unslotted, slotted, (State.frameEnd_frame i s audio).other⟩
  case lost =>
    have next := validFrame_lost got hlost
    refine ⟨?_, fun k => ?_⟩
    · rw [front (by simp [hlost]), next]
      rfl
    · have moved : (f.validFrame got).monitor = .acquiring := by
        rw [next]
        rfl
      rw [link, moved, hlost, toldMonitor_of_ne (before := .lost) (now := .acquiring) nofun nofun]
      rfl
  case present =>
    have next : f.validFrame got = f.enterPresent c := by
      rw [validFrame_match got hacq hc hmatch, if_pos (criterion ▸ hlast)]
    refine ⟨?_, fun k => ?_⟩
    · rw [front (by simp [hacq]), next]
      rfl
    · have moved : (f.validFrame got).monitor = .present := by
        rw [next]
        rfl
      rw [link, moved, hacq, toldMonitor_of_ne (before := .acquiring) (now := .present) nofun nofun]
      rfl
  case counted =>
    have next := validFrame_match got hacq hc hmatch
    rw [if_neg (by omega)] at next
    refine ⟨?_, fun k => ?_⟩
    · rw [front (by simp [hacq]), next]
    · rw [link, next, EventState.toldMonitor]
      simp
  case candidate =>
    have next := validFrame_candidate got hacq hc hmatch
    refine ⟨?_, fun k => ?_⟩
    · rw [front (by simp [hacq]), next]
      rfl
    · rw [link, next, hacq, EventState.toldMonitor]
      rfl
  case left =>
    have mismatch : ¬ ∃ c, f.latched = some c ∧ c.matched got = true := by
      rintro ⟨d, hd, hm⟩
      rw [hc] at hd
      obtain rfl := Option.some.inj hd
      rw [hmatch] at hm
      exact absurd hm nofun
    have next := validFrame_left got hpresent mismatch
    refine ⟨?_, fun k => ?_⟩
    · rw [front fun h => mismatch h.2, next]
      rfl
    · have moved : (f.validFrame got).monitor = .acquiring := by
        rw [next]
        rfl
      rw [link, moved, hpresent, toldMonitor_of_ne (before := .present) (now := .acquiring) nofun nofun]
      rfl

end Sys2Proof.Machine
end

section
/-! PROOF. The timers of an input (R85, R86, R89, R90). -/

namespace Sys2Proof.Machine

/-- An input that enters LOST writes its front end and the links' event states alone. -/
theorem loseInput_rest (i : InputIx) (s : State) :
    s.loseInput i =
      { s with
        fronts := s.fronts.set i (s.fronts.get i).lose
        linkA := (s.loseInput i).linkA, linkB := (s.loseInput i).linkB } := by
  have rest := (State.loseInput_frame i s).rest
  rw [fronts_loseInput, rings_loseInput] at rest
  exact rest

section Elapsed
variable (n : Nat) (s : State) (i : InputIx)

theorem monitor_elapse : ((s.elapse n).fronts.get i).monitor = (s.fronts.get i).monitor :=
  State.front_elapse_keeps n s FrontEnd.monitor (fun _ _ _ => rfl) (fun _ => rfl) i

theorem criterion_elapse : ((s.elapse n).fronts.get i).criterion = (s.fronts.get i).criterion :=
  State.front_elapse_keeps n s FrontEnd.criterion (fun _ _ _ => rfl) (fun _ => rfl) i

theorem missCount_elapse : ((s.elapse n).fronts.get i).missCount = (s.fronts.get i).missCount :=
  State.front_elapse_keeps n s FrontEnd.missCount (fun _ _ _ => rfl) (fun _ => rfl) i

theorem latched_elapse : ((s.elapse n).fronts.get i).latched = (s.fronts.get i).latched :=
  State.front_elapse_keeps n s FrontEnd.latched (fun _ _ _ => rfl) (fun _ => rfl) i

theorem frame_elapse : ((s.elapse n).fronts.get i).frame = (s.fronts.get i).frame :=
  State.front_elapse_keeps n s FrontEnd.frame (fun _ _ _ => rfl) (fun _ => rfl) i

theorem slateMode_elapse : ((s.elapse n).fronts.get i).slateMode = (s.fronts.get i).slateMode :=
  State.front_elapse_keeps n s FrontEnd.slateMode (fun _ _ _ => rfl) (fun _ => rfl) i

theorem holdTime_elapse : ((s.elapse n).fronts.get i).holdTime = (s.fronts.get i).holdTime :=
  State.front_elapse_keeps n s FrontEnd.holdTime (fun _ _ _ => rfl) (fun _ => rfl) i

theorem slate_elapse : ((s.elapse n).fronts.get i).slate = (s.fronts.get i).slate :=
  State.front_elapse_keeps n s FrontEnd.slate (fun _ _ _ => rfl) (fun _ => rfl) i

theorem checker_elapse : ((s.elapse n).fronts.get i).checker = (s.fronts.get i).checker :=
  State.front_elapse_keeps n s FrontEnd.checker (fun _ _ _ => rfl) (fun _ => rfl) i

theorem acqTimer_elapse {ms : Nat} (h : (s.fronts.get i).acqTimer = some ms) :
    ((s.elapse n).fronts.get i).acqTimer = some (ms - ((s.clock + n) / 27000 - s.clock / 27000)) := by
  rw [State.front_elapse]
  simp [FrontEnd.elapse, h]

theorem missLeft_elapse {left : Nat} (h : (s.fronts.get i).missLeft = some left) :
    ((s.elapse n).fronts.get i).missLeft = some (left - n) := by
  rw [State.front_elapse]
  simp [FrontEnd.elapse, h]

theorem slateTimer_elapse {ms : Nat} (h : (s.fronts.get i).slateTimer = .running ms) :
    ((s.elapse n).fronts.get i).slateTimer = .running (ms - ((s.clock + n) / 27000 - s.clock / 27000)) := by
  rw [State.front_elapse]
  simp [FrontEnd.elapse, HoldTimer.elapse, h]

end Elapsed

/-! ## The three expiries -/

section Expiry
variable {s : State} {i : InputIx}

theorem lose_of_not_present {f : FrontEnd} (h : f.monitor ≠ .present) : f.lose = f.enterLost.loseSync := by
  rw [FrontEnd.lose, if_neg h]

theorem lose_of_present {f : FrontEnd} (h : f.monitor = .present) : f.lose = f.depart.enterLost.loseSync := by
  rw [FrontEnd.lose, if_pos h]

/-- An entry to LOST keeps the latched format (R86, R93). -/
theorem latched_lose (f : FrontEnd) : f.lose.latched = f.latched := by
  unfold FrontEnd.lose FrontEnd.loseSync
  split <;> split <;> rfl

theorem acquisitionExpiry_acquiring {ms : Nat} (h : (s.fronts.get i).monitor = .acquiring)
    (ht : (s.fronts.get i).acqTimer = some ms) : s.acquisitionExpiry i = s.loseInput i :=
  if_pos ⟨h, by rw [ht]; rfl⟩

section Miss
variable {left : Nat} (h : (s.fronts.get i).monitor = .present) (ht : (s.fronts.get i).missLeft = some left)
include h ht

/-- A miss before the N-th is counted, and the miss interval starts again (R86). -/
theorem missExpiry_counted (hn : (s.fronts.get i).missCount + 1 < (s.fronts.get i).criterion.n) :
    s.missExpiry i =
      s.setFront i
        { s.fronts.get i with
          missCount := (s.fronts.get i).missCount + 1
          missLeft := (s.fronts.get i).latched.map fun c => missInterval c.period } := by
  rw [State.missExpiry, if_pos ⟨h, by rw [ht]; rfl⟩, if_neg (by omega)]

/-- The N-th miss frees the slot of the frame in progress and loses the input (R86, R89). -/
theorem missExpiry_last (hn : (s.fronts.get i).criterion.n ≤ (s.fronts.get i).missCount + 1) :
    s.missExpiry i = (s.abandonSlot i).loseInput i := by
  rw [State.missExpiry, if_pos ⟨h, by rw [ht]; rfl⟩, if_pos hn]

end Miss

theorem slateExpiry_running {f : FrontEnd} {ms : Nat} (h : f.slate = .holding) (ht : f.slateTimer = .running ms) :
    f.slateExpiry = { f with slate := .fill, slateTimer := .stopped } := by
  rw [FrontEnd.slateExpiry, h, ht]

end Expiry

/-! ## The commands of the timers -/

section Command
variable {s : State} {i : InputIx}

theorem exec_acquisitionTimerExpiry {ms : Nat} (ht : (s.fronts.get i).acqTimer = some ms) :
    exec (.acquisitionTimerExpiry i) s =
      .next ((s.elapse (periodsToTick 27000 s.clock ms)).acquisitionExpiry i) := by
  have time : s.toAcquisitionExpiry i = periodsToTick 27000 s.clock ms := by
    rw [State.toAcquisitionExpiry, ht]
    rfl
  rw [← time]
  exact if_neg (by simp [ht])

theorem exec_missIntervalExpiry {left : Nat} (ht : (s.fronts.get i).missLeft = some left) :
    exec (.missIntervalExpiry i) s = .next ((s.elapse left).missExpiry i) := by
  have time : s.toMissExpiry i = left := by
    rw [State.toMissExpiry, ht]
    rfl
  conv_rhs => rw [← time]
  exact if_neg (by simp [ht])

theorem exec_slateHoldExpiry {ms : Nat} (ht : (s.fronts.get i).slateTimer = .running ms) :
    exec (.slateHoldExpiry i) s =
      .next ((s.elapse (periodsToTick 27000 s.clock ms)).modFront i FrontEnd.slateExpiry) := by
  have time : s.toSlateExpiry i = periodsToTick 27000 s.clock ms := by
    rw [State.toSlateExpiry, ht]
    rfl
  rw [← time]
  exact if_pos (by rw [ht]; rfl)

end Command

/-- Settles O43: time passes to the expiry, which finds the front end as it was but for its timers. -/
theorem inputTimersExpire : Obligations.InputTimersExpire := by
  intro s i f hunting lost told toTick
  have checker (n : Nat) : ((s.elapse n).fronts.get i).checker = f.checker := checker_elapse n s i
  have told_eq (e : EventState) : e.inputLost i (f.checker == .sync) = told e := by
    simp only [told, EventState.inputLost, EventState.latchIf, beq_iff_eq]
  refine ⟨fun ms hacq htimer => ?acquisition, fun c left hpresent hleft hlatched => ?miss, fun ms hslate htimer => ?slate⟩
  case acquisition =>
    intro u
    have monitor : (u.fronts.get i).monitor = .acquiring := (monitor_elapse _ s i).trans hacq
    have expired : u.acquisitionExpiry i = u.loseInput i :=
      acquisitionExpiry_acquiring monitor (acqTimer_elapse _ s i htimer)
    refine ⟨u.loseInput i, ?_, ?_, fun k => ?_⟩
    · rw [exec_acquisitionTimerExpiry htimer, ← expired]
      rfl
    · conv_lhs => rw [loseInput_rest, lose_of_not_present (by simp [monitor])]
      rfl
    · rw [link_loseInput, checker, told_eq]
  case miss =>
    intro u g n
    have monitor : g.monitor = .present := (monitor_elapse _ s i).trans hpresent
    have timer : g.missLeft = some (left - left) := missLeft_elapse _ s i hleft
    have count : g.missCount = f.missCount := missCount_elapse _ s i
    have latched : g.latched = some c := (latched_elapse _ s i).trans hlatched
    have limit : g.criterion.n = n := by
      have criterion : g.criterion = f.criterion := criterion_elapse _ s i
      simp only [n, criterion]
      cases f.criterion <;> rfl
    have frame : g.frame = f.frame := frame_elapse _ s i
    have mode : g.slateMode = f.slateMode := slateMode_elapse _ s i
    have hold : g.holdTime = f.holdTime := holdTime_elapse _ s i
    have last (hlast : n ≤ f.missCount + 1) : u.missExpiry i = (u.abandonSlot i).loseInput i :=
      missExpiry_last monitor timer (by rw [limit, count]; exact hlast)
    have lostFront : ((u.abandonSlot i).loseInput i).fronts.get i = g.withoutSlot.lose := by
      rw [fronts_loseInput, fronts_abandonSlot, Table.get_set_self, Table.get_set_self]
    have frames : OnlyInputs (· = i) u ((u.abandonSlot i).loseInput i) :=
      (State.abandonSlot_frame i u).trans (State.loseInput_frame i _)
    have rings : ((u.abandonSlot i).loseInput i).rings = s.rings.set i ((s.rings.get i).freed f.slot) := by
      rw [rings_loseInput, rings_abandonSlot, State.rings_elapse, FrontEnd.slot, frame]
      rfl
    obtain ⟨unslotted, slotted⟩ := rings_freed_cases rings
    refine ⟨fun hmore => ?_, fun hlast => ⟨(u.abandonSlot i).loseInput i, ?_, frames.rest, ?_, ?_, frames.other, fun unset => ?_,
      fun x k hx hk => slotted k ?_, fun k => ?_⟩⟩
    · intro missed
      rw [exec_missIntervalExpiry hleft, missExpiry_counted monitor timer (by rw [limit, count]; exact hmore), latched, count]
      rfl
    · rw [exec_missIntervalExpiry hleft, ← last hlast]
    · rw [lostFront, lose_of_present (f := g.withoutSlot) monitor]
      simp only [FrontEnd.withoutSlot, FrontEnd.depart, holdTimer, mode, hold, frame]
      rfl
    · rw [lostFront, latched_lose]
      exact latched
    · refine unslotted ?_
      cases hf : f.frame with
      | none => rw [FrontEnd.slot, hf, Option.bind_none]
      | some x => rw [slot_of_frame hf, unset x hf]
    · rw [slot_of_frame hx, hk]
    · rw [link_loseInput, link_abandonSlot, fronts_abandonSlot, Table.get_set_self, ← told_eq, ← checker left]
      rfl
  case slate =>
    intro u
    have slate : (u.fronts.get i).slate = .holding := (slate_elapse _ s i).trans hslate
    have expired := slateExpiry_running slate (slateTimer_elapse _ s i htimer)
    exact (exec_slateHoldExpiry htimer).trans (congrArg (fun x => Host.Outcome.next (u.setFront i x)) expired)

end Sys2Proof.Machine
end

section
/-! PROOF. SET_INPUT: settings held already, and every setting written (R87, R91, R93, R95, R96, R131). -/

namespace Sys2Proof.Machine

/-! ## Settings held already -/

/-- The settings a front end holds. -/
def FrontEnd.settings (f : FrontEnd) : InputSettings :=
  { criterion := f.criterion, slateMode := f.slateMode, holdTime := f.holdTime, fillColour := f.fillColour, loop := f.loop
    checkerOn := f.checker != .off, counterKind := f.counterKind, snapshotMode := f.snapshotMode }

section Held
variable (f : FrontEnd)

theorem slateSet_settings : f.slateSet f.settings = (f.slate, f.slateTimer) := by
  cases h : f.slateMode <;> simp [FrontEnd.slateSet, FrontEnd.settings, h]

theorem setSlate_settings : f.setSlate f.settings = f := by
  rw [setSlate_eq, slateSet_settings]
  rfl

theorem setLoop_settings : f.setLoop f.settings.loop = f := if_pos rfl

theorem setChecker_settings : f.setChecker f.settings.checkerOn = f := by
  unfold FrontEnd.setChecker FrontEnd.settings
  cases h : f.checker <;> rfl

theorem setCounterKind_settings : f.setCounterKind f.settings.counterKind = f := if_pos rfl

theorem applySettings_settings : f.applySettings f.settings = f := by
  have criterion : ({ f with criterion := f.settings.criterion } : FrontEnd) = f := rfl
  rw [FrontEnd.applySettings, setSlate_settings, criterion, setLoop_settings, setChecker_settings, setCounterKind_settings]
  rfl

end Held

/-- SET_INPUT with the settings held already changes nothing. -/
theorem applyInputSettings_settings (i : InputIx) (s : State) : s.applyInputSettings i (s.fronts.get i).settings = s := by
  have same : (s.fronts.get i).loop = (s.fronts.get i).settings.loop := rfl
  have links (k : Link) : (s.applyInputSettings i (s.fronts.get i).settings).link k = s.link k := by
    rw [link_applyInputSettings, if_pos same]
  rw [(State.applyInputSettings_frame i s _).rest_of_links links, fronts_applyInputSettings, rings_applyInputSettings,
    applySettings_settings, Table.set_get_self, if_pos same]

/-! ## The checker's switch -/

/-- Checker, run count, block position and block errors after the switch, of a checker that a changed loop selection has taken out of SYNC or not (R93, R95). -/
def FrontEnd.checkerSet (f : FrontEnd) (on unsynced : Bool) : CheckerState × Nat × Nat × Nat :=
  match on, f.checker with
  | true, .off => (.hunt, 0, 0, 0)
  | false, .off => (.off, f.runCount, f.blockPos, f.blockErrors)
  | false, _ => (.off, 0, 0, 0)
  | true, _ => if unsynced then (.hunt, 0, 0, 0) else (f.checker, f.runCount, f.blockPos, f.blockErrors)

section Checker
variable (f : FrontEnd) (on : Bool)

theorem setChecker_eq :
    f.setChecker on =
      { f with
        checker := (f.checkerSet on false).1, runCount := (f.checkerSet on false).2.1
        blockPos := (f.checkerSet on false).2.2.1, blockErrors := (f.checkerSet on false).2.2.2 } := by
  unfold FrontEnd.setChecker FrontEnd.checkerSet
  cases on <;> cases hc : f.checker <;> simp [FrontEnd.enterHunt, ← hc]

theorem setChecker_loseSync :
    f.loseSync.setChecker on =
      { f with
        checker := (f.checkerSet on (f.checker == .sync)).1, runCount := (f.checkerSet on (f.checker == .sync)).2.1
        blockPos := (f.checkerSet on (f.checker == .sync)).2.2.1
        blockErrors := (f.checkerSet on (f.checker == .sync)).2.2.2 } := by
  unfold FrontEnd.loseSync
  by_cases hc : f.checker = .sync
  · rw [if_pos hc]
    cases on <;> simp [FrontEnd.setChecker, FrontEnd.checkerSet, FrontEnd.enterHunt, hc]
  · rw [if_neg hc, setChecker_eq, beq_false_of_ne hc]

end Checker

/-! ## A changed loop selection -/

/-- Slate and hold timer after the monitor has left PRESENT, where it was there (R90). -/
def FrontEnd.slateLeft (f : FrontEnd) : SlateState × HoldTimer :=
  if f.monitor = .present then (f.depart.slate, f.depart.slateTimer) else (f.slate, f.slateTimer)

/-- What a changed loop selection makes of a front end before its checker follows: its frame, its audio and, where it is not LOST, its monitor and its slate (R87, R90, R93, R98). -/
def FrontEnd.moved (f : FrontEnd) (lp : Option ScreenIx) : FrontEnd :=
  { f.reconnect lp with
    slate := f.slateLeft.1, slateTimer := f.slateLeft.2
    monitor := .lost
    candidate := if f.monitor = .lost then f.candidate else none
    acqCount := if f.monitor = .lost then f.acqCount else 0
    missCount := if f.monitor = .lost then f.missCount else 0
    acqTimer := if f.monitor = .lost then f.acqTimer else none
    missLeft := if f.monitor = .lost then f.missLeft else none }

theorem setLoop_moved {f : FrontEnd} {lp : Option ScreenIx} (h : f.loop ≠ lp) : f.setLoop lp = (f.moved lp).loseSync := by
  rw [FrontEnd.setLoop, if_neg h]
  cases hm : f.monitor <;>
    simp [FrontEnd.moved, FrontEnd.slateLeft, FrontEnd.reconnect, FrontEnd.lose, FrontEnd.enterLost, FrontEnd.depart, hm]

/-! ## Every setting -/

/-- SET_INPUT with the loop selection that is held. -/
theorem applySettings_same {f : FrontEnd} {x : InputSettings} (h : f.loop = x.loop) :
    f.applySettings x =
      { f with
        criterion := x.criterion, slateMode := x.slateMode, holdTime := x.holdTime, fillColour := x.fillColour
        counterKind := x.counterKind, snapshotMode := x.snapshotMode
        slate := (f.slateSet x).1, slateTimer := (f.slateSet x).2
        checker := (f.checkerSet x.checkerOn false).1, runCount := (f.checkerSet x.checkerOn false).2.1
        blockPos := (f.checkerSet x.checkerOn false).2.2.1, blockErrors := (f.checkerSet x.checkerOn false).2.2.2
        count := if f.counterKind = x.counterKind then f.count else 0
        countOver := if f.counterKind = x.counterKind then f.countOver else false } := by
  have stays : ({ f.setSlate x with criterion := x.criterion } : FrontEnd).setLoop x.loop =
      { f.setSlate x with criterion := x.criterion } := if_pos (by rw [setSlate_eq]; exact h)
  rw [FrontEnd.applySettings, stays, setChecker_eq, setCounterKind_eq, setSlate_eq]
  rfl

/-- SET_INPUT with another loop selection. -/
theorem applySettings_moved {f : FrontEnd} {x : InputSettings} (h : f.loop ≠ x.loop) :
    f.applySettings x =
      { f.moved x.loop with
        criterion := x.criterion, slateMode := x.slateMode, holdTime := x.holdTime, fillColour := x.fillColour
        counterKind := x.counterKind, snapshotMode := x.snapshotMode
        slate := (f.setSlate x).slateLeft.1, slateTimer := (f.setSlate x).slateLeft.2
        checker := (f.checkerSet x.checkerOn (f.checker == .sync)).1
        runCount := (f.checkerSet x.checkerOn (f.checker == .sync)).2.1
        blockPos := (f.checkerSet x.checkerOn (f.checker == .sync)).2.2.1
        blockErrors := (f.checkerSet x.checkerOn (f.checker == .sync)).2.2.2
        count := if f.counterKind = x.counterKind then f.count else 0
        countOver := if f.counterKind = x.counterKind then f.countOver else false } := by
  have moves : ({ f.setSlate x with criterion := x.criterion } : FrontEnd).setLoop x.loop =
      (FrontEnd.moved { f.setSlate x with criterion := x.criterion } x.loop).loseSync :=
    setLoop_moved (by rw [setSlate_eq]; exact h)
  rw [FrontEnd.applySettings, moves, setChecker_loseSync, setCounterKind_eq, setSlate_eq]
  rfl

theorem exec_applySetInput {s : State} {l : Link} {i : InputIx} {x : InputSettings} (h : s.chosen = some (l, .setInput i x)) :
    exec .applySetInput s = .next ((s.afterTaking l).applyInputSettings i x) := by
  simp only [exec, execApplySetInput, h, takeEdit_eq_afterTaking]

/-- Settles O23: the front end field by field, with the loop selection held or moved. -/
theorem setInputWritesEverySetting : Obligations.SetInputWritesEverySetting := by
  intro s l i x hchosen f timer moved lost unsynced slate checker
  have taken : (s.afterTaking l).fronts = s.fronts := fronts_afterTaking s l
  have takenRings : (s.afterTaking l).rings = s.rings := State.rings_setLink s l _
  refine ⟨fun held => ?held, (s.afterTaking l).applyInputSettings i x, exec_applySetInput hchosen, ?front, ?ring, fun k => ?links,
    fun j hj => ?others, (State.applyInputSettings_frame i _ x).rest⟩
  case held =>
    have settings : x = ((s.afterTaking l).fronts.get i).settings := by
      rw [held, taken]
      rfl
    rw [exec_applySetInput hchosen, settings, applyInputSettings_settings]
  case front =>
    rw [fronts_applyInputSettings, taken, Table.get_set_self]
    by_cases hloop : f.loop = x.loop
    · have checker_eq : checker = f.checkerSet x.checkerOn false := by
        simp only [checker, FrontEnd.checkerSet, unsynced, moved, hloop]
        cases x.checkerOn <;> cases f.checker <;> simp
      have slate_eq : slate = f.slateSet x := if_neg fun h => h.1 hloop
      rw [applySettings_same hloop, checker_eq, slate_eq]
      simp [moved, lost, hloop]
    · have checker_eq : checker = f.checkerSet x.checkerOn (f.checker == .sync) := by
        simp only [checker, FrontEnd.checkerSet, unsynced, moved]
        cases x.checkerOn <;> cases f.checker <;> simp [hloop]
      have slate_eq : slate = (f.setSlate x).slateLeft := by
        rw [setSlate_eq]
        by_cases hp : f.monitor = .present
        · refine (if_pos ⟨hloop, hp⟩).trans (Eq.trans ?_ (if_pos hp).symm)
          simp only [FrontEnd.depart]
          cases x.slateMode <;> rfl
        · exact (if_neg fun h => hp h.2).trans (if_neg hp).symm
      rw [applySettings_moved hloop, checker_eq, slate_eq]
      simp [moved, lost, hloop, FrontEnd.moved, FrontEnd.reconnect]
  case ring =>
    rw [rings_applyInputSettings, taken, takenRings]
    by_cases hloop : f.loop = x.loop
    · rw [if_pos hloop, if_neg fun h : moved => h hloop]
    · have hmoved : moved := hloop
      rw [if_neg hloop, if_pos hmoved, Table.get_set_self]
      rfl
  case links =>
    intro before checked
    rw [link_applyInputSettings, taken]
    by_cases hloop : f.loop = x.loop
    · have checked_eq : checked = before := if_neg fun h => h.1 hloop
      rw [if_pos hloop, if_neg fun h : lost => h.1 hloop, checked_eq]
    · have checked_eq : checked = before.latchIf (f.checker == .sync) .checkSync (some i.val) := by
        simp [checked, EventState.latchIf, unsynced, moved, hloop]
      rw [if_neg hloop, EventState.reconnected, checked_eq]
      simp [EventState.latchIf, lost, moved, hloop, f, before]
  case others =>
    obtain ⟨front, ring⟩ := (State.applyInputSettings_frame i (s.afterTaking l) x).2 j hj
    exact ⟨by rw [front, taken], by rw [ring, takenRings]⟩

end Sys2Proof.Machine
end

section
/-! PROOF. Snapshots of the error counters, and the one-second tick (R97, R128, R132, R172). -/

namespace Sys2Proof.Machine

/-! ## One event after another of a kind -/

/-- An event state after a kind has been raised for each of a list of things. -/
def EventState.latchEach {n : Nat} (k : EventKind) (xs : List (Fin n)) (e : EventState) : EventState :=
  xs.foldl (fun e i => e.latch k (some i.val)) e

section LatchEach
variable {n : Nat} (k : EventKind) (xs : List (Fin n)) (e : EventState)

theorem latchEach_nil : e.latchEach k ([] : List (Fin n)) = e := rfl

theorem latchEach_cons (i : Fin n) : e.latchEach k (i :: xs) = (e.latch k (some i.val)).latchEach k xs := rfl

theorem latches_latch (index : Option Nat) (j : Fin 12) :
    (e.latch k index).latches.get j = (e.latches.get j || decide (j = k.ix)) := by
  simp only [EventState.latch, Table.get_set]
  by_cases h : j = k.ix
  · simp [h]
  · simp [h, Ne.symm h]

theorem sets_latch_other {j : Fin 12} (hj : j ≠ k.ix) (index : Option Nat) : (e.latch k index).sets.get j = e.sets.get j := by
  cases index with
  | none => rfl
  | some m => exact Table.get_modify_of_ne _ _ (Ne.symm hj)

theorem member_latch {m : Nat} (hm : m < 16) (i : Nat) :
    ((e.latch k (some i)).sets.get k.ix).getLsbD m = ((e.sets.get k.ix).getLsbD m || decide (m = i)) := by
  rw [EventState.latch, Table.get_modify_self]
  simp [hm]

/-- Latches and index sets alone are written. -/
theorem latchEach_frame :
    e.latchEach k xs = { e with latches := (e.latchEach k xs).latches, sets := (e.latchEach k xs).sets } := by
  induction xs generalizing e with
  | nil => rfl
  | cons i xs ih =>
    rw [latchEach_cons, ih]
    rfl

/-- The kind's latch is set when there is something to raise it for. -/
theorem latches_latchEach (j : Fin 12) :
    (e.latchEach k xs).latches.get j = (e.latches.get j || (decide (j = k.ix) && xs.any fun _ => true)) := by
  induction xs generalizing e with
  | nil => simp [latchEach_nil]
  | cons i xs ih =>
    rw [latchEach_cons, ih, latches_latch]
    cases decide (j = k.ix) <;> simp

theorem sets_latchEach_other {j : Fin 12} (hj : j ≠ k.ix) : (e.latchEach k xs).sets.get j = e.sets.get j := by
  induction xs generalizing e with
  | nil => rfl
  | cons i xs ih => rw [latchEach_cons, ih, sets_latch_other k e hj]

/-- The kind's index set gathers the things it is raised for. -/
theorem member_latchEach (hn : n ≤ 16) (i : Fin n) :
    ((e.latchEach k xs).sets.get k.ix).getLsbD i.val = ((e.sets.get k.ix).getLsbD i.val || decide (i ∈ xs)) := by
  induction xs generalizing e with
  | nil => simp [latchEach_nil]
  | cons a xs ih =>
    rw [latchEach_cons, ih, member_latch k e (by omega)]
    simp [Fin.ext_iff, Bool.or_assoc]

end LatchEach

/-! ## Things marked among all -/

section Marked
variable {n : Nat} (k : EventKind) (p : Fin n → Bool) (e : EventState)

theorem latches_latchEach_filter (j : Fin 12) :
    (e.latchEach k ((List.finRange n).filter p)).latches.get j =
      (e.latches.get j || (decide (j = k.ix) && (List.finRange n).any p)) := by
  rw [latches_latchEach, List.any_filter]
  simp

theorem member_latchEach_filter (hn : n ≤ 16) (i : Fin n) :
    ((e.latchEach k ((List.finRange n).filter p)).sets.get k.ix).getLsbD i.val = ((e.sets.get k.ix).getLsbD i.val || p i) := by
  rw [member_latchEach k _ e hn]
  simp

theorem latchEach_filter_none (h : ∀ i, p i = false) : e.latchEach k ((List.finRange n).filter p) = e := by
  rw [List.filter_eq_nil_iff.mpr (by simp [h]), latchEach_nil]

end Marked

/-! ## Snapshots -/

/-- A snapshot tells COUNTER_OVERFLOW to both links where the mark is set (R97). -/
theorem link_snapshot (i : InputIx) (s : State) (k : Link) :
    (s.snapshot i).link k =
      { s.link k with
        events := (s.link k).events.latchIf (s.fronts.get i).countOver .counterOverflow (some i.val) } := by
  unfold State.snapshot
  simp only
  split
  · next h => rw [link_raiseBoth, State.link_setFront, h]; rfl
  · next h => rw [State.link_setFront, Bool.eq_false_of_not_eq_true h]; rfl

/-- One snapshot after another tells it for the inputs whose marks are set. -/
theorem link_snapshotList (xs : List InputIx) (hd : xs.Nodup) (s : State) (k : Link) :
    (xs.foldl (fun t i => t.snapshot i) s).link k =
      { s.link k with
        events := (s.link k).events.latchEach .counterOverflow (xs.filter fun i => (s.fronts.get i).countOver) } := by
  induction xs generalizing s with
  | nil => rfl
  | cons a xs ih =>
    obtain ⟨ha, hd⟩ := List.nodup_cons.mp hd
    have others : (xs.filter fun i => ((s.snapshot a).fronts.get i).countOver) = xs.filter fun i => (s.fronts.get i).countOver := by
      refine List.filter_congr fun i hi => ?_
      have hne : a ≠ i := fun e => ha (e ▸ hi)
      rw [(State.snapshot_eq a s).fronts, State.fronts_setFront, Table.get_set_of_ne _ _ hne]
    rw [List.foldl_cons, ih hd, others, link_snapshot]
    cases hm : (s.fronts.get a).countOver <;> simp [hm, EventState.latchIf, latchEach_cons]

/-- Snapshots write front ends and the links' event states alone. -/
theorem snapshots_rest (s : State) (mode : SnapshotMode) (p : InputIx → Bool) :
    s.snapshots mode p =
      { s with
        fronts := (s.snapshots mode p).fronts, linkA := (s.snapshots mode p).linkA, linkB := (s.snapshots mode p).linkB } := by
  have frame := State.snapshots_frame s mode p
  unfold OnlyEvents at frame
  rw [frame]

theorem link_snapshots (s : State) (mode : SnapshotMode) (p : InputIx → Bool) (k : Link) :
    (s.snapshots mode p).link k =
      { s.link k with
        events := (s.link k).events.latchEach .counterOverflow
          ((List.finRange 12).filter fun i => (p i && (s.fronts.get i).snapshotMode == mode) && (s.fronts.get i).countOver) } := by
  rw [State.snapshots, link_snapshotList _ ((List.nodup_finRange 12).filter _), List.filter_filter]
  simp only [Bool.and_comm]

theorem exec_applySnapshotCounters {s : State} {l : Link} {inputs : BitVec 12} (h : s.chosen = some (l, .snapshotCounters inputs)) :
    exec .applySnapshotCounters s = .next ((s.afterTaking l).snapshots .manual fun i => inputs.getLsbD i.val) := by
  simp only [exec, execApplySnapshotCounters, h, takeEdit_eq_afterTaking]

/-- Taking an edit leaves the links' event states. -/
theorem events_afterTaking (s : State) (l k : Link) : ((s.afterTaking l).link k).events = (s.link k).events := by
  cases l <;> cases k <;> rfl

/-- Settles O25: the walk over the inputs snapshots each once, and gathers the marks it copies. -/
theorem snapshotCountersTakesManualInputs : Obligations.SnapshotCountersTakesManualInputs := by
  intro s l inputs hchosen taken marked
  have kept : (s.afterTaking l).fronts = s.fronts := fronts_afterTaking s l
  refine ⟨_, exec_applySnapshotCounters hchosen, snapshots_rest _ _ _, fun i => ?front, fun k => ?links⟩
  case front =>
    rw [State.snapshots_front, kept]
    simp only [taken, Bool.and_eq_true, beq_iff_eq]
    rfl
  case links =>
    have told := link_snapshots (s.afterTaking l) .manual (fun i => inputs.getLsbD i.val) k
    rw [kept] at told
    have events : (((s.afterTaking l).snapshots .manual fun i => inputs.getLsbD i.val).link k).events =
        (s.link k).events.latchEach .counterOverflow ((List.finRange 12).filter marked) := by
      rw [told, events_afterTaking]
    refine ⟨?_, fun hnone => ?_, ?_, fun j => ?_, fun j hj => ?_, fun i => ?_⟩
    · rw [told]
    · exact told.trans (by rw [latchEach_filter_none _ _ _ hnone])
    · rw [events]
      exact latchEach_frame _ _ _
    · rw [events]
      exact latches_latchEach_filter _ _ _ j
    · rw [events]
      exact sets_latchEach_other _ _ _ hj
    · rw [events]
      exact member_latchEach_filter .counterOverflow _ _ (by decide) i

/-! ## The one-second tick -/

theorem link_raiseLapse (pins : Table Pin 16) (s : State) (scr : ScreenIx) (k : Link) :
    (s.raiseLapse pins scr).link k =
      { s.link k with
        events := (s.link k).events.latchIf ((pins.get scr).lapse == 1 && (pins.get scr).owner == some k) .pinLapsed
          (some scr.val) } := by
  unfold State.raiseLapse Pin.lapses
  by_cases hlast : (pins.get scr).lapse = 1
  · rw [if_pos hlast]
    cases howner : (pins.get scr).owner with
    | none => simp [EventState.latchIf]
    | some l =>
      simp only [State.raise, State.link_modLink]
      by_cases hl : l = k <;> simp [hl, hlast, EventState.latchIf]
  · simp [hlast, EventState.latchIf]

theorem link_raiseLapses (pins : Table Pin 16) (xs : List ScreenIx) (s : State) (k : Link) :
    (xs.foldl (State.raiseLapse pins) s).link k =
      { s.link k with
        events := (s.link k).events.latchEach .pinLapsed
          (xs.filter fun scr => (pins.get scr).lapse == 1 && (pins.get scr).owner == some k) } := by
  induction xs generalizing s with
  | nil => rfl
  | cons a xs ih =>
    rw [List.foldl_cons, ih, link_raiseLapse]
    cases hm : (pins.get a).lapse == 1 && (pins.get a).owner == some k <;> simp [hm, EventState.latchIf, latchEach_cons]

/-- At a one-second tick both links are told of the marks that are snapshot, and the owners of the pins that lapse (R97, R128). -/
theorem events_secondTick (s : State) (k : Link) :
    (s.secondTick.link k).events =
      ((s.link k).events.latchEach .counterOverflow
        ((List.finRange 12).filter fun i => (s.fronts.get i).snapshotMode == .auto && (s.fronts.get i).countOver)).latchEach
          .pinLapsed ((List.finRange 16).filter fun scr => (s.pins.get scr).lapse == 1 && (s.pins.get scr).owner == some k) := by
  have told (t : State) (pins : Table Pin 16) : ({ t with pins := pins } : State).link k = t.link k := by cases k <;> rfl
  unfold State.secondTick
  simp only [link_raiseLapses, told, link_snapshots, Bool.true_and]

theorem exec_oneSecondTick (s : State) : exec .oneSecondTick s = .next (s.pass s.toSecond).secondTick := by
  have tick : s.elapse s.toSecond = (s.pass s.toSecond).secondTick := by
    rw [State.elapse, State.secondsIn_toSecond]
    rfl
  rw [← tick]
  rfl

/-- Settles O28: the time to the tick holds this one tick, whose events are those of its two walks. -/
theorem oneSecondTickSnapshotsAndLowersPins : Obligations.OneSecondTickSnapshotsAndLowersPins := by
  intro s
  have front (i : InputIx) : (s.pass s.toSecond).fronts.get i =
      (s.fronts.get i).elapse s.toSecond ((s.clock + s.toSecond) / 27000 - s.clock / 27000) := by
    simp [State.pass, Config.msPeriods]
  have mode (i : InputIx) : ((s.pass s.toSecond).fronts.get i).snapshotMode = (s.fronts.get i).snapshotMode := by
    rw [front]
    rfl
  have mark (i : InputIx) : ((s.pass s.toSecond).fronts.get i).countOver = (s.fronts.get i).countOver := by
    rw [front]
    rfl
  have events (k : Link) : ((s.pass s.toSecond).link k).events = (s.link k).events := by
    rw [State.link_pass]
    rfl
  refine ⟨_, exec_oneSecondTick s, ?clock, fun i hauto => ?auto, fun i hmanual => ?manual, fun scr => ?pin, fun k => ?told,
    State.staged_secondTick _, State.pool_secondTick _, State.rings_secondTick _, State.zones_secondTick _,
    State.detector_secondTick _, fun k => ?queues⟩
  case clock =>
    rw [State.clock_secondTick]
    exact clock_add_periodsToTick (by decide) s.clock Nat.one_pos
  case auto =>
    rw [State.front_secondTick, if_pos ((mode i).trans hauto), front]
    exact ⟨rfl, rfl, rfl, rfl⟩
  case manual =>
    rw [State.front_secondTick, if_neg (by simp [mode, hmanual]), front]
    exact ⟨rfl, rfl⟩
  case pin =>
    rw [State.pins_secondTick, Table.get_map, State.pins_pass]
    rfl
  case told =>
    have told := events_secondTick (s.pass s.toSecond) k
    simp only [mode, mark, events, State.pins_pass] at told
    rw [told]
    refine ⟨fun i => ?_, fun scr => ?_, ?_, ?_, fun j h3 h7 => ?_⟩
    · rw [sets_latchEach_other (j := 3) .pinLapsed _ _ (by decide)]
      exact member_latchEach_filter .counterOverflow _ _ (by decide) i
    · refine (member_latchEach_filter .pinLapsed _ _ (by decide) scr).trans ?_
      rw [sets_latchEach_other .counterOverflow _ _ (by decide)]
      rfl
    · simp [latches_latchEach_filter, EventKind.ix]
    · simp [latches_latchEach_filter, EventKind.ix]
    · simp [latches_latchEach_filter, EventKind.ix, h3, h7]
  case queues =>
    rw [State.link_secondTick, State.link_pass]
    exact ⟨rfl, rfl⟩

end Sys2Proof.Machine
end

section
/-! PROOF. The sample period of the zones, the FIFOs and the announce detector (R98, R139 to R147). -/

namespace Sys2Proof.Machine

/-! ## One zone -/

/-- A zone at a sample period, its marks moved at the first sample of a block (R145, log 11). -/
def State.zoneNow (s : State) (k : ZoneIx) : Zone :=
  if s.detector.pos = 0 then (s.zones.get k).rotate else s.zones.get k

/-- A zone after its sample period. -/
def State.sampled (an : Sample) (s : State) (k : ZoneIx) : Zone := (s.zoneNow k).sample (s.zoneLevel an (s.zoneNow k))

/-- The sample period of a zone raises AUDIO_CLIP (R145). -/
def State.raisesClip (an : Sample) (s : State) (k : ZoneIx) : Bool := (s.zoneNow k).raises (s.zoneLevel an (s.zoneNow k))

section OneZone
variable (an : Sample) (s : State) (k : ZoneIx)

theorem sampleZone_eq :
    s.sampleZone an k =
      if s.raisesClip an k then (s.setZone k (s.sampled an k)).raiseBoth .audioClip (some k.val)
      else s.setZone k (s.sampled an k) := rfl

/-- The sample period of a zone writes that zone and the links' event states. -/
theorem sampleZone_onlyEvents : OnlyEvents (s.setZone k (s.sampled an k)) (s.sampleZone an k) := by
  rw [sampleZone_eq]
  split
  · exact OnlyEvents.raiseBoth _ _ _
  · exact OnlyEvents.refl _

theorem link_sampleZone (l : Link) :
    (s.sampleZone an k).link l =
      { s.link l with events := (s.link l).events.latchIf (s.raisesClip an k) .audioClip (some k.val) } := by
  have zoned (z : Zone) : (s.setZone k z).link l = s.link l := by cases l <;> rfl
  rw [sampleZone_eq]
  split
  · next h => rw [link_raiseBoth, zoned, h]; rfl
  · next h => rw [zoned, Bool.eq_false_of_not_eq_true h]; rfl

variable {an s} {t : State}

/-- What a zone takes at a sample period it takes from the inputs, the compositors and the detector. -/
theorem zoneLevel_congr (hf : t.fronts = s.fronts) (hc : t.comps = s.comps) (hd : t.detector = s.detector) (z : Zone) :
    t.zoneLevel an z = s.zoneLevel an z := by
  have from_source : t.contributed an = s.contributed an := by
    funext src
    cases src <;> simp only [State.contributed, hf]
  have list : t.mixList z = s.mixList z := by simp only [State.mixList, State.followed, hc]
  unfold State.zoneLevel
  rw [from_source, list, hd]

variable (an)

/-- The sample period of one zone leaves that of another. -/
theorem sampled_sampleZone {j : ZoneIx} (h : k ≠ j) : (s.sampleZone an k).sampled an j = s.sampled an j ∧
    (s.sampleZone an k).raisesClip an j = s.raisesClip an j := by
  have frame := sampleZone_onlyEvents an s k
  have zone : (s.sampleZone an k).zoneNow j = s.zoneNow j := by
    simp only [State.zoneNow, frame.detector, frame.zones, State.setZone, Table.get_set_of_ne _ _ h]
  have level (z : Zone) : (s.sampleZone an k).zoneLevel an z = s.zoneLevel an z :=
    zoneLevel_congr frame.fronts frame.comps frame.detector z
  constructor
  · simp only [State.sampled, zone, level]
  · simp only [State.raisesClip, zone, level]

end OneZone

/-! ## The zones of a list -/

section Zones
variable (an : Sample) (xs : List ZoneIx)

theorem sampleZones_frame (s : State) :
    OnlyEvents { s with zones := (xs.foldl (State.sampleZone an) s).zones } (xs.foldl (State.sampleZone an) s) := by
  induction xs generalizing s with
  | nil => exact OnlyEvents.refl s
  | cons a xs ih =>
    have rest := ih (s.sampleZone an a)
    have one := sampleZone_onlyEvents an s a
    rw [List.foldl_cons]
    unfold OnlyEvents at rest one ⊢
    rw [rest, one]
    rfl

/-- Each zone of the list has had its sample period, and the others stand. -/
theorem zones_sampleZones (hd : xs.Nodup) (s : State) (z : ZoneIx) :
    (xs.foldl (State.sampleZone an) s).zones.get z = if z ∈ xs then s.sampled an z else s.zones.get z := by
  induction xs generalizing s with
  | nil => simp
  | cons a xs ih =>
    obtain ⟨ha, hd⟩ := List.nodup_cons.mp hd
    rw [List.foldl_cons, ih hd]
    by_cases hz : a = z
    · subst hz
      simp [ha, (sampleZone_onlyEvents an s a).zones, State.setZone]
    · simp [Ne.symm hz, (sampled_sampleZone an a hz).1, (sampleZone_onlyEvents an s a).zones, State.setZone,
        Table.get_set_of_ne _ _ hz]

/-- AUDIO_CLIP is told for the zones of the list that raise it. -/
theorem link_sampleZones (hd : xs.Nodup) (s : State) (l : Link) :
    (xs.foldl (State.sampleZone an) s).link l =
      { s.link l with events := (s.link l).events.latchEach .audioClip (xs.filter (s.raisesClip an)) } := by
  induction xs generalizing s with
  | nil => rfl
  | cons a xs ih =>
    obtain ⟨ha, hd⟩ := List.nodup_cons.mp hd
    have others : xs.filter ((s.sampleZone an a).raisesClip an) = xs.filter (s.raisesClip an) := by
      refine List.filter_congr fun j hj => ?_
      exact (sampled_sampleZone an a fun e => ha (e ▸ hj)).2
    rw [List.foldl_cons, ih hd, others, link_sampleZone]
    cases hm : s.raisesClip an a <;> simp [hm, EventState.latchIf, latchEach_cons]

end Zones

/-! ## The sample period -/

section Period
variable (an : Sample) (s : State)

theorem judgeBlock_idle {s : State} (h : s.detector.due = false) : s.judgeBlock = s := by
  rw [State.judgeBlock, h]
  rfl

theorem zonesInOrder_eq : zonesInOrder = List.finRange 4 := by decide

theorem samplePeriod_eq {s : State} (h : s.detector.due = false) :
    s.samplePeriod an =
      { (List.finRange 4).foldl (State.sampleZone an) s with
        fronts := s.fronts.map fun f => { f with fifo := f.fifo.drop 1 }
        detector := s.detector.sample an } := by
  have frame := sampleZones_frame an (List.finRange 4) s
  unfold State.samplePeriod
  rw [judgeBlock_idle h, zonesInOrder_eq]
  simp only [State.popAudio, State.setDetector, frame.fronts, frame.detector]

theorem zones_samplePeriod {s : State} (h : s.detector.due = false) (z : ZoneIx) :
    (s.samplePeriod an).zones.get z = s.sampled an z := by
  rw [samplePeriod_eq an h]
  exact (zones_sampleZones an _ (List.nodup_finRange 4) s z).trans (if_pos (List.mem_finRange z))

theorem link_samplePeriod {s : State} (h : s.detector.due = false) (l : Link) :
    (s.samplePeriod an).link l =
      { s.link l with
        events := (s.link l).events.latchEach .audioClip ((List.finRange 4).filter (s.raisesClip an)) } := by
  have told := link_sampleZones an _ (List.nodup_finRange 4) s l
  rw [samplePeriod_eq an h, ← told]
  cases l <;> rfl

end Period

/-! ## A judgement that is due (R147, R148, log 10) -/

/-- A judgement clears the peak, the position and the mark of what is due (R147). -/
theorem judge_clears (d : Detector) : d.judge.due = false ∧ d.judge.pos = 0 ∧ d.judge.peak = 0 := by
  have branch (p : Prop) [Decidable p] (a b : Detector) (ha : a.due = false ∧ a.pos = 0 ∧ a.peak = 0)
      (hb : b.due = false ∧ b.pos = 0 ∧ b.peak = 0) :
      (if p then a else b).due = false ∧ (if p then a else b).pos = 0 ∧ (if p then a else b).peak = 0 := by
    split
    · exact ha
    · exact hb
  unfold Detector.judge
  cases d.state with
  | idle => exact branch _ _ _ (branch _ _ _ ⟨rfl, rfl, rfl⟩ ⟨rfl, rfl, rfl⟩) ⟨rfl, rfl, rfl⟩
  | active => exact branch _ _ _ ⟨rfl, rfl, rfl⟩ (branch _ _ _ ⟨rfl, rfl, rfl⟩ ⟨rfl, rfl, rfl⟩)

theorem detector_judgeBlock {s : State} (h : s.detector.due = true) : s.judgeBlock.detector = s.detector.judge := by
  rw [State.judgeBlock, if_pos h]
  simp only
  split
  · rfl
  · exact (OnlyEvents.raiseAnnounce _ _).detector

/-- A sample period that finds a judgement due is the judgement, and a sample period. -/
theorem samplePeriod_judgeBlock (an : Sample) {s : State} (h : s.judgeBlock.detector.due = false) :
    s.samplePeriod an = s.judgeBlock.samplePeriod an := by
  conv_rhs => rw [State.samplePeriod, judgeBlock_idle h]
  rfl

/-- Settles O46: the judgement first where one is due, and what a sample period without one writes. -/
theorem samplePeriodFeedsTheDetector : Obligations.SamplePeriodFeedsTheDetector := by
  refine ⟨fun s an hdue => ?judged, fun s an hdue hpos => ⟨s.samplePeriod an, rfl, ?rest, fun i => ?front, ?detector, fun l => ?link⟩⟩
  case judged =>
    obtain ⟨idle, start, quiet⟩ := judge_clears s.detector
    rw [← detector_judgeBlock hdue] at idle start quiet
    exact ⟨s.judgeBlock, rfl, idle, start, quiet, congrArg Host.Outcome.next (samplePeriod_judgeBlock an idle)⟩
  case rest =>
    have frame := sampleZones_frame an (List.finRange 4) s
    unfold OnlyEvents at frame
    rw [samplePeriod_eq an hdue, frame]
  case front =>
    rw [samplePeriod_eq an hdue]
    simp
  case detector =>
    rw [samplePeriod_eq an hdue]
    rcases Nat.lt_or_ge (s.detector.pos + 1) 480 with hmore | hlast
    · have unfilled : s.detector.pos ≠ 479 := by omega
      simp [Detector.sample, Config.blockSamples, hmore, unfilled, hdue]
    · have full : s.detector.pos = 479 := by omega
      simp [Detector.sample, Config.blockSamples, full]
  case link =>
    rw [link_samplePeriod an hdue]

/-! ## The level of a zone (R139 to R144) -/

section Level
variable (an : Sample) (s : State) (z : Zone)

/-- The sum of a zone's contributions on the channel picked. -/
def State.summed (pick : Int × Int → Int) : Int :=
  ((s.mixList z).map fun c => pick (s.contributed an c.source) * (c.gain : Int)).sum

/-- One channel of a zone before saturation. -/
def State.channel (pick : Int × Int → Int) : Int :=
  let m := round1024 (s.summed an z pick)
  if z.record.mode = .off then 0
  else round1024 ((if ducked z.record s.detector then duckStage z.record an.toInt m else m) * (z.record.level : Int))

theorem zoneLevel_eq : s.zoneLevel an z = (s.channel an z Prod.fst, s.channel an z Prod.snd) := by
  unfold State.zoneLevel State.channel State.summed channelLevel levelStage normalised
  cases hm : z.record.mode <;> simp [List.map_map, Function.comp_def]

end Level

theorem saturate_eq (y : Int) : saturate y = if 8388607 < y then 8388607 else if y < -8388608 then -8388608 else y := by
  simp only [saturate, Config.sampleMin, Config.sampleMax]
  split
  · omega
  · split <;> omega

/-- Settles O45: the zones' walk reaches each zone once, and none of them what another zone takes. -/
theorem zoneOutputsBySamplePeriod : Obligations.ZoneOutputsBySamplePeriod := by
  intro s an z hdue r line sample sources limit mixed y clip current previous raised
  have record : (s.zoneNow z).record = r := by
    unfold State.zoneNow
    split <;> rfl
  have before : (s.zoneNow z).line = line ∧ (s.zoneNow z).clipCount = (s.zones.get z).clipCount := by
    unfold State.zoneNow
    split <;> exact ⟨rfl, rfl⟩
  have marks : (s.zoneNow z).curMark = current ∧ (s.zoneNow z).prevMark = previous := by
    simp only [current, previous, State.zoneNow]
    split <;> exact ⟨rfl, rfl⟩
  obtain ⟨kept, counted⟩ := before
  obtain ⟨hcur, hprev⟩ := marks
  have contributed (src : AudioSource) : s.contributed an src = sample src := by
    cases src with
    | an => rfl
    | input i =>
      simp only [State.contributed, FrontEnd.handed, sample]
      cases (s.fronts.get i).audioPresent <;> cases (s.fronts.get i).fifo <;> rfl
  have listed : (s.mixList (s.zoneNow z)).map (fun c => (c.source, (c.gain : Int))) = sources := by
    simp only [State.mixList, State.followed, record, sources]
    cases r.mode with
    | off => rfl
    | mix => rfl
    | follow => cases (s.comps.get r.follow).live.main.source <;> rfl
  have channel (pick : Int × Int → Int) : s.channel an (s.zoneNow z) pick = mixed pick := by
    have sum : s.summed an (s.zoneNow z) pick = (sources.map fun c => pick (sample c.1) * c.2).sum := by
      rw [State.summed, ← listed, List.map_map]
      simp only [contributed, Function.comp_def]
    simp only [State.channel, sum, record, ducked, duckStage, Bool.and_eq_true, beq_iff_eq]
    rfl
  have level : s.zoneLevel an (s.zoneNow z) = (mixed Prod.fst, mixed Prod.snd) := by
    rw [zoneLevel_eq, channel, channel]
  have saturated : saturate = limit := funext saturate_eq
  have clipped : clips (mixed Prod.fst, mixed Prod.snd) = clip := by
    rw [clips, saturated]
  have raises : s.raisesClip an z = raised := by
    rw [State.raisesClip, level, Zone.raises, clipped, hcur, hprev]
  have zone : (s.samplePeriod an).zones.get z = (s.zoneNow z).sample (mixed Prod.fst, mixed Prod.snd) := by
    rw [zones_samplePeriod an hdue, State.sampled, level]
  refine ⟨s.samplePeriod an, rfl, ?_, ?_, ?_, ?_, ?_, ?_, fun l => ⟨?_, fun hraised => ?_⟩⟩
  · rw [zone]
    exact record
  · rw [zone, Zone.sample, kept, saturated]
    rfl
  · rw [zone, Zone.sample, Zone.output, Zone.earlier, record, kept, saturated]
  · rw [zone, Zone.sample, hcur, clipped]
  · rw [zone]
    exact hprev
  · rw [zone, Zone.sample, counted, clipped]
    cases clip <;> rfl
  · rw [link_samplePeriod an hdue, ← raises]
    exact member_latchEach_filter .audioClip _ _ (by decide) z
  · rw [link_samplePeriod an hdue]
    have any : (List.finRange 4).any (s.raisesClip an) = true :=
      List.any_eq_true.mpr ⟨z, List.mem_finRange z, raises.trans hraised⟩
    exact (latches_latchEach_filter .audioClip _ _ 10).trans (by simp [any, EventKind.ix])

end Sys2Proof.Machine
end

section
/-! PROOF. The law of one ring: what filling, writing, publishing and abandoning a slot, and its readers' coming and going, do to it (R102 to R107). -/

namespace Sys2Proof.Machine

/-- What the laws of the Frame Store ask of a slot, by whether a frame is written into it, whether it is newest-ready, and how many windows read it. -/
structure Slot.Fits (x : Slot) (written newest : Prop) (readers : Nat) : Prop where
  filling : x.state = .filling ↔ written
  ready : newest → x.state = .ready
  unread : x.state ≠ .ready → x.readers = 0
  readers : x.readers = readers

/-- A ring whose frame in progress is written into the slot `written`, or into none, and whose slots have the readers counted. -/
def Ring.Lawful (r : Ring) (written : Option SlotIx) (readers : SlotIx → Nat) : Prop :=
  ∀ n, (r.slots.get n).Fits (written = some n) (r.newest = some n) (readers n)

theorem free_fits {written newest : Prop} (hw : ¬ written) (hn : ¬ newest) : Slot.free.Fits written newest 0 :=
  ⟨iff_of_false nofun hw, fun h => absurd h hn, fun _ => rfl, rfl⟩

namespace Slot.Fits

variable {x : Slot} {written newest : Prop} {readers : Nat} (h : x.Fits written newest readers)
include h

/-- A slot that is not READY is read by no window. -/
theorem no_reader (hx : x.state ≠ .ready) : readers = 0 := h.readers.symm.trans (h.unread hx)

theorem not_newest (hw : written) : ¬ newest := fun hn => absurd ((h.filling.mpr hw).symm.trans (h.ready hn)) nofun

/-- A READY slot with another count of readers. -/
theorem recount (hx : x.state = .ready) (k : Nat) : Slot.Fits { x with readers := k } written newest k :=
  ⟨h.filling, h.ready, fun c => absurd hx c, rfl⟩

end Slot.Fits

namespace Ring.Lawful

variable {r : Ring} {written written' : Option SlotIx} {readers readers' : SlotIx → Nat} {n : SlotIx}

/-- One slot is written, and the others are as they were. -/
theorem setSlot (h : r.Lawful written readers) {x : Slot} (hx : x.Fits (written' = some n) (r.newest = some n) (readers' n))
    (hwritten : ∀ m, m ≠ n → (written' = some m ↔ written = some m))
    (hreaders : ∀ m, m ≠ n → readers' m = readers m) :
    Ring.Lawful { r with slots := r.slots.set n x } written' readers' := by
  intro m
  by_cases e : m = n
  · subst e
    rwa [Table.get_set_self]
  · rw [Table.get_set_of_ne _ _ (Ne.symm e), hreaders m e, propext (hwritten m e)]
    exact h m

/-- A FREE slot starts receiving a frame (R103). -/
theorem fill (h : r.Lawful none readers) (hfree : (r.slots.get n).state = .free) (seq : Nat) :
    (r.fill n seq).Lawful (some n) readers := by
  have ready : (r.slots.get n).state ≠ .ready := hfree ▸ nofun
  exact h.setSlot ⟨iff_of_true rfl rfl, fun hn => absurd ((h n).ready hn) ready, fun _ => rfl, ((h n).no_reader ready).symm⟩
    (fun m hm => iff_of_false (fun e => hm (Option.some.inj e).symm) nofun) fun _ _ => rfl

/-- A line is written into a slot, or into none (R104). -/
theorem write (h : r.Lawful written readers) (line : List Colour) (slot : Option SlotIx) :
    (r.written line slot).Lawful written readers := by
  cases slot with
  | none => exact h
  | some n => exact h.setSlot ⟨(h n).filling, (h n).ready, (h n).unread, (h n).readers⟩ (fun _ _ => Iff.rfl) fun _ _ => rfl

/-- The FILLING slot, if there is one, is abandoned (R105). -/
theorem abandon (h : r.Lawful written readers) : (r.freed written).Lawful none readers := by
  cases written with
  | none => exact h
  | some n =>
    have unread : readers n = 0 := (h n).no_reader ((h n).filling.mpr rfl ▸ nofun)
    exact h.setSlot (unread ▸ free_fits nofun ((h n).not_newest rfl))
      (fun m hm => iff_of_false nofun fun e => hm (Option.some.inj e).symm) fun _ _ => rfl

/-- The FILLING slot is published, and the slot that was newest-ready is FREE where no window reads it (R104). -/
theorem publish (h : r.Lawful (some n) readers) (width height : Nat) : (r.publish n width height).Lawful none readers := by
  obtain ⟨self, others⟩ := slot_publish r width height ((h n).not_newest rfl)
  intro m
  rw [newest_publish]
  by_cases e : m = n
  · subst e
    rw [self]
    exact ⟨iff_of_false nofun nofun, fun _ => rfl, fun c => absurd rfl c, (h m).readers⟩
  · have other : some n ≠ some m := fun hm => e (Option.some.inj hm).symm
    rw [others m e]
    split
    · next c =>
      rw [← (h m).readers, c.2]
      exact free_fits nofun other
    · exact ⟨iff_of_false (fun hf => other ((h m).filling.mp hf)) nofun, fun hn => absurd hn other, (h m).unread,
        (h m).readers⟩

/-- The FILLING slot, if there is one, is published at the raster of a format (R104). -/
theorem published (h : r.Lawful written readers) (form : Format) : (r.published written (some form)).Lawful none readers := by
  cases written with
  | none => exact h
  | some n => exact h.publish form.width form.height

/-- One reader gives a slot up (R107). -/
theorem giveUp (h : r.Lawful written readers) (hn : readers n = readers' n + 1)
    (hothers : ∀ m, m ≠ n → readers' m = readers m) : (r.giveUp n).Lawful written readers' := by
  have ready : (r.slots.get n).state = .ready := by
    by_contra c
    exact absurd (hn.symm.trans ((h n).no_reader c)) (Nat.succ_ne_zero _)
  have count : (r.slots.get n).readers = readers' n + 1 := (h n).readers.trans hn
  rw [giveUp_eq]
  refine h.setSlot ?_ (fun _ _ => Iff.rfl) hothers
  split
  · next last =>
    have none : readers' n = 0 := by omega
    exact none ▸ free_fits (fun e => absurd (ready.symm.trans ((h n).filling.mpr e)) nofun) last.2
  · rw [count]
    exact (h n).recount ready _

/-- One window takes the newest-ready slot (R65, R107). -/
theorem take (h : r.Lawful written readers) (hnewest : r.newest = some n) (hn : readers' n = readers n + 1)
    (hothers : ∀ m, m ≠ n → readers' m = readers m) : (r.take n).Lawful written readers' := by
  refine h.setSlot ?_ (fun _ _ => Iff.rfl) hothers
  rw [hn, ← (h n).readers]
  exact (h n).recount ((h n).ready hnewest) _

/-- A wall reset takes all readers away, and only FILLING and newest-ready slots are left (R102). -/
theorem dropReaders (h : r.Lawful written readers) : r.dropReaders.Lawful written fun _ => 0 := by
  intro m
  have slot : r.dropReaders.slots.get m =
      if (r.slots.get m).state = .ready ∧ r.newest ≠ some m then Slot.free else { r.slots.get m with readers := 0 } :=
    Table.get_tab _ _
  rw [slot]
  split
  · next c => exact free_fits (fun hw => absurd (c.1.symm.trans ((h m).filling.mpr hw)) nofun) c.2
  · exact ⟨(h m).filling, (h m).ready, fun _ => rfl, rfl⟩

end Ring.Lawful

end Sys2Proof.Machine
end

section
/-! PROOF. What the law of the Frame Store reads of a state: the rings, the slots of the frames in progress, and what the plans read (R102, R107). -/

namespace Sys2Proof.Machine

/-! ## What a window reads -/

/-- The slot of the ring of an input that a plan reads. -/
def Plan.read (q : Plan) : Option (InputIx × SlotIx) :=
  match q.source, q.slot with
  | some i, some n => some (i, n)
  | none, _ => none
  | some _, none => none

theorem read_eq_some {q : Plan} {i : InputIx} {n : SlotIx} : q.read = some (i, n) ↔ q.source = some i ∧ q.slot = some n := by
  obtain ⟨-, source, -, -, -, -, -, -, -, -, -, -, -, -, -, -, slot, -⟩ := q
  cases source <;> cases slot <;> simp [Plan.read]

theorem read_eq_none {q : Plan} : q.read = none ↔ q.source = none ∨ q.slot = none := by
  obtain ⟨-, source, -, -, -, -, -, -, -, -, -, -, -, -, -, -, slot, -⟩ := q
  cases source <;> cases slot <;> simp [Plan.read]

/-- What each window of the wall reads. -/
abbrev Reads := WallWindow → Option (InputIx × SlotIx)

def State.reads (s : State) : Reads := fun w => (s.plan w).read

/-- The windows that read a slot. -/
def Reads.count (v : Reads) (i : InputIx) (n : SlotIx) : Nat := (List.finRange 64).countP fun w => v w == some (i, n)

theorem readersOf_eq_count (s : State) (i : InputIx) : s.readersOf i = s.reads.count i := by
  funext n
  refine List.countP_congr fun w _ => ?_
  simp [Plan.names, State.reads, read_eq_some]

theorem count_none {v : Reads} (h : ∀ w, v w = none) (i : InputIx) (n : SlotIx) : v.count i n = 0 := by
  simp [Reads.count, h]

/-- When one window reads another slot, the one slot loses it and the other gains it. -/
theorem count_update (v : Reads) (w : WallWindow) (x : Option (InputIx × SlotIx)) (i : InputIx) (n : SlotIx) :
    Reads.count (Function.update v w x) i n + (if v w = some (i, n) then 1 else 0) =
      v.count i n + if x = some (i, n) then 1 else 0 := by
  have first := List.perm_cons_erase (List.mem_finRange w)
  have others : ((List.finRange 64).erase w).countP (fun u => Function.update v w x u == some (i, n)) =
      ((List.finRange 64).erase w).countP fun u => v u == some (i, n) := by
    refine List.countP_congr fun u hu => ?_
    rw [Function.update_of_ne ((List.nodup_finRange 64).mem_erase_iff.mp hu).1]
  simp only [Reads.count, first.countP_eq, List.countP_cons, others, Function.update_self, beq_iff_eq]
  omega

/-! ## The law, ring by ring -/

/-- Every ring agrees with the frame in progress of its input, and with what the windows read. -/
def Stored (v : Reads) (s : State) : Prop := ∀ i, (s.rings.get i).Lawful (s.fronts.get i).slot (v.count i)

/-- A plan that names a slot names its input. -/
def State.SlotsHaveSources (s : State) : Prop := ∀ w, (s.plan w).slot ≠ none → (s.plan w).source ≠ none

theorem ringLaw_iff (s : State) : RingLaw s ↔ Stored s.reads s ∧ s.SlotsHaveSources := by
  have frame (i : InputIx) (n : SlotIx) :
      (s.fronts.get i).slot = some n ↔ ∃ x, (s.fronts.get i).frame = some x ∧ x.slot = some n := Option.bind_eq_some_iff
  constructor
  · rintro ⟨filling, newest, unread, readers, named⟩
    refine ⟨fun i n => ⟨(filling i n).trans (frame i n).symm, newest i n, unread i n, ?_⟩, named⟩
    rw [readers i n, readersOf_eq_count]
  · rintro ⟨h, named⟩
    refine ⟨fun i n => (h i n).filling.trans (frame i n), fun i n => (h i n).ready, fun i n => (h i n).unread,
      fun i n => ?_, named⟩
    rw [(h i n).readers, readersOf_eq_count]

/-! ## What the law does not see -/

/-- `t` has the rings of `s`, its frames are written into the slots of `s`, and each window of a set names the source and the slot it names in `s`. -/
structure SameStore (P : WallWindow → Prop) (s t : State) : Prop where
  rings : t.rings = s.rings
  frames : ∀ i, (t.fronts.get i).slot = (s.fronts.get i).slot
  plans : ∀ w, P w → (t.plan w).source = (s.plan w).source ∧ (t.plan w).slot = (s.plan w).slot

/-- All windows of the wall. -/
def wholeWall : WallWindow → Prop := fun _ => True

namespace SameStore

variable {P : WallWindow → Prop} {s t u : State}

theorem refl (s : State) : SameStore P s s := ⟨rfl, fun _ => rfl, fun _ _ => ⟨rfl, rfl⟩⟩

theorem trans (h : SameStore P s t) (k : SameStore P t u) : SameStore P s u where
  rings := k.rings.trans h.rings
  frames i := (k.frames i).trans (h.frames i)
  plans w hw := ⟨(k.plans w hw).1.trans (h.plans w hw).1, (k.plans w hw).2.trans (h.plans w hw).2⟩

/-- What every step of a walk over a list keeps, the walk keeps. -/
theorem foldl {α : Type} {f : State → α → State} (h : ∀ s a, SameStore P s (f s a)) (xs : List α) (s : State) :
    SameStore P s (xs.foldl f s) :=
  foldl_keeps (P := SameStore P s) (fun t a ht => ht.trans (h t a)) xs (refl s)

theorem ofParts (hr : t.rings = s.rings) (hf : t.fronts = s.fronts) (hc : t.comps = s.comps) : SameStore P s t where
  rings := hr
  frames _ := by rw [hf]
  plans _ _ := by rw [State.plan, hc]; exact ⟨rfl, rfl⟩

theorem ofEvents (h : OnlyEvents s t) : SameStore P s t := ofParts h.rings h.fronts h.comps

theorem read (h : SameStore P s t) {w : WallWindow} (hw : P w) : t.reads w = s.reads w := by
  obtain ⟨source, slot⟩ := h.plans w hw
  simp only [State.reads, Plan.read, source, slot]

theorem stored (h : SameStore P s t) {v : Reads} (hs : Stored v s) : Stored v t := fun i => by
  rw [h.rings, h.frames]
  exact hs i

end SameStore

namespace RingLaw

variable {s t : State} (hs : RingLaw s)
include hs

theorem congr (h : SameStore wholeWall s t) : RingLaw t := by
  obtain ⟨stored, named⟩ := (ringLaw_iff s).mp hs
  have reads : t.reads = s.reads := funext fun w => h.read trivial
  refine (ringLaw_iff t).mpr ⟨reads ▸ h.stored stored, fun w => ?_⟩
  obtain ⟨source, slot⟩ := h.plans w trivial
  rw [source, slot]
  exact named w

theorem ring (i : InputIx) : (s.rings.get i).Lawful (s.fronts.get i).slot (s.reads.count i) := ((ringLaw_iff s).mp hs).1 i

/-- One input has a new front end and a new ring, and the compositors stand. -/
theorem setInput {i : InputIx} {f : FrontEnd} {r : Ring} (hf : t.fronts = s.fronts.set i f) (hr : t.rings = s.rings.set i r)
    (hc : t.comps = s.comps) (hl : r.Lawful f.slot (s.reads.count i)) : RingLaw t := by
  obtain ⟨stored, named⟩ := (ringLaw_iff s).mp hs
  have plan (w : WallWindow) : t.plan w = s.plan w := by rw [State.plan, hc]; rfl
  have reads : t.reads = s.reads := funext fun w => congrArg Plan.read (plan w)
  refine (ringLaw_iff t).mpr ⟨fun j => ?_, fun w => plan w ▸ named w⟩
  rw [hf, hr, reads]
  by_cases e : j = i
  · subst e
    rwa [Table.get_set_self, Table.get_set_self]
  · rw [Table.get_set_of_ne _ _ (Ne.symm e), Table.get_set_of_ne _ _ (Ne.symm e)]
    exact stored j

/-- One front end is written whose frame in progress has the slot it had. -/
theorem setFront {i : InputIx} {f : FrontEnd} (hf : t.fronts = s.fronts.set i f) (hr : t.rings = s.rings)
    (hc : t.comps = s.comps) (hslot : f.slot = (s.fronts.get i).slot) : RingLaw t :=
  hs.setInput hf (hr.trans (Table.set_get_self _ _).symm) hc (hslot ▸ hs.ring i)

end RingLaw

end Sys2Proof.Machine
end

section
/-! PROOF. The events of an input keep the law of its ring: a frame that begins fills a FREE slot, and each way it can end empties or publishes that slot (R88, R89, R93, R103 to R105). -/

namespace Sys2Proof.Machine

/-! ## The slot of the frame in progress -/

theorem slot_of_no_frame {f : FrontEnd} (h : f.frame = none) : f.slot = none := by rw [FrontEnd.slot, h, Option.bind_none]

theorem slot_withoutSlot (f : FrontEnd) : f.withoutSlot.slot = none := by
  cases h : f.frame <;> simp [FrontEnd.slot, FrontEnd.withoutSlot, h]

theorem slot_judgeLine (f : FrontEnd) (good : Bool) : (f.judgeLine good).slot = f.slot := by
  rw [judgeLine_frame]
  rfl

/-- An entry to LOST is no end of the frame in progress (R86). -/
theorem slot_lose (f : FrontEnd) : f.lose.slot = f.slot := by
  have sync (g : FrontEnd) : g.loseSync.slot = g.slot := by
    unfold FrontEnd.loseSync
    split <;> rfl
  rw [FrontEnd.lose, sync]
  split <;> rfl

theorem frame_slateExpiry (f : FrontEnd) : f.slateExpiry.frame = f.frame := by
  unfold FrontEnd.slateExpiry
  split <;> rfl

/-- A changed loop selection ends the frame in progress, and no other setting touches it (R93). -/
theorem frame_applySettings (f : FrontEnd) (x : InputSettings) :
    (f.applySettings x).frame = if f.loop = x.loop then f.frame else none := by
  have lost (g : FrontEnd) : (g.reconnect x.loop).lose.frame = none := by
    unfold FrontEnd.lose FrontEnd.loseSync
    split <;> split <;> rfl
  have unsynced (g : FrontEnd) : (g.reconnect x.loop).loseSync.frame = none := by
    unfold FrontEnd.loseSync
    split <;> rfl
  rw [FrontEnd.applySettings, setCounterKind_eq, setChecker_frame, setSlate_eq]
  simp only [FrontEnd.setLoop]
  split
  · rfl
  · split
    · exact unsynced _
    · exact lost _

/-- A frame that is kept is of an input with a latched format, whose raster its slot takes (R89). -/
theorem latched_of_keepsFrame {f : FrontEnd} {x : FrameInProgress} {form : Format} (h : f.keepsFrame x form = true) :
    ∃ c, (f.validFrame form).latched = some c := by
  by_contra none
  refine absurd (h.symm.trans (keepsFrame_false (f := f) form x ?_)) nofun
  rintro ⟨hp, c, hc, hm⟩
  exact none ⟨c, by rw [validFrame_present form hp hc hm]; exact hc⟩

namespace RingLaw

variable {s : State} (hs : RingLaw s) (i : InputIx)
include hs

/-! ## Frame starts (R88, R103) -/

theorem completeInvalid : RingLaw (s.completeInvalid i) := by
  rw [completeInvalid_eq]
  exact hs.setInput rfl rfl rfl (hs.ring i).abandon

theorem openFrame (hf : (s.fronts.get i).frame = none) : RingLaw (s.openFrame i) := by
  have ring : (s.rings.get i).Lawful none (s.reads.count i) := slot_of_no_frame hf ▸ hs.ring i
  by_cases h : (s.fronts.get i).monitor = .present
  · cases hn : (s.rings.get i).freeSlot with
    | none =>
      rw [openFrame_dropped h hn]
      exact hs.setFront rfl rfl rfl (slot_of_no_frame hf).symm
    | some n =>
      rw [openFrame_filled h hn]
      exact hs.setInput rfl rfl rfl (ring.fill (freeSlot_free hn) _)
  · rw [openFrame_absent h]
    exact hs.setFront rfl rfl rfl (slot_of_no_frame hf).symm

theorem frameStart : RingLaw (s.frameStart i) := by
  cases h : (s.fronts.get i).frame with
  | none =>
    rw [frameStart_no_frame h]
    exact hs.openFrame i h
  | some x =>
    rw [frameStart_in_frame h]
    exact (hs.completeInvalid i).openFrame i (by rw [front_completeInvalid]; rfl)

/-! ## Lines and frame ends (R89, R104, R105) -/

theorem activeLine (pixels : List Colour) : RingLaw (s.activeLine i pixels) := by
  cases h : (s.fronts.get i).frame with
  | none =>
    rw [activeLine_no_frame i s pixels h]
    exact hs
  | some x =>
    have written : ((s.rings.get i).written pixels x.slot).Lawful x.slot (s.reads.count i) :=
      (slot_of_frame h ▸ hs.ring i).write pixels x.slot
    have taken : RingLaw
        ((s.setRing i ((s.rings.get i).written pixels x.slot)).setFront i ((s.fronts.get i).takeLine x pixels)) :=
      hs.setInput rfl rfl rfl written
    rw [activeLine_eq i s h]
    exact taken.setFront (fronts_checkLine i _ _) (rings_checkLine i _ _) (State.checkLine_frame i _ _).comps
      (slot_judgeLine _ _)

theorem frameEnd (audio : Option (List Stereo)) : RingLaw (s.frameEnd i audio) := by
  cases h : (s.fronts.get i).frame with
  | none =>
    rw [frameEnd_no_frame i s audio h]
    exact hs
  | some x =>
    have ring := slot_of_frame h ▸ hs.ring i
    cases hv : x.validFormat with
    | none =>
      rw [frameEnd_invalid h audio hv]
      exact hs.completeInvalid i
    | some form =>
      cases hk : (s.fronts.get i).keepsFrame x form with
      | true =>
        obtain ⟨c, hc⟩ := latched_of_keepsFrame hk
        rw [frameEnd_kept h audio hv hk, hc]
        exact hs.setInput rfl rfl rfl (ring.published c)
      | false =>
        obtain ⟨fronts, rings⟩ := frameEnd_abandoned h audio hv hk
        exact hs.setInput fronts rings (State.frameEnd_frame i s audio).comps ring.abandon

/-! ## Expiries and SET_INPUT (R85, R86, R89, R90, R131) -/

theorem loseInput : RingLaw (s.loseInput i) :=
  hs.setFront (fronts_loseInput i s) (rings_loseInput i s) (State.loseInput_frame i s).comps (slot_lose _)

theorem abandonSlot : RingLaw (s.abandonSlot i) := by
  refine hs.setInput (fronts_abandonSlot i s) (rings_abandonSlot i s) (State.abandonSlot_frame i s).comps ?_
  rw [slot_withoutSlot]
  exact (hs.ring i).abandon

theorem acquisitionExpiry : RingLaw (s.acquisitionExpiry i) := by
  unfold State.acquisitionExpiry
  simp only
  split
  · exact hs.loseInput i
  · exact hs

theorem missExpiry : RingLaw (s.missExpiry i) := by
  unfold State.missExpiry
  simp only
  split
  · split
    · exact (hs.abandonSlot i).loseInput i
    · exact hs.setFront rfl rfl rfl rfl
  · exact hs

theorem slateExpiry : RingLaw (s.modFront i FrontEnd.slateExpiry) :=
  hs.setFront rfl rfl rfl (by rw [FrontEnd.slot, frame_slateExpiry]; rfl)

theorem applyInputSettings (x : InputSettings) : RingLaw (s.applyInputSettings i x) := by
  have frame := frame_applySettings (s.fronts.get i) x
  have fronts := fronts_applyInputSettings i s x
  have rings := rings_applyInputSettings i s x
  have comps := (State.applyInputSettings_frame i s x).comps
  split at frame
  · next h => exact hs.setFront fronts (rings.trans (if_pos h)) comps (by rw [FrontEnd.slot, frame]; rfl)
  · next h =>
    refine hs.setInput fronts (rings.trans (if_neg h)) comps ?_
    rw [slot_of_no_frame frame]
    exact (hs.ring i).abandon

/-! ## Looped inputs (R60, R92) -/

omit i
variable (scr : ScreenIx)

theorem startLoopedFrames : RingLaw (s.startLoopedFrames scr) := by
  refine foldl_keeps (P := RingLaw) (fun t i ht => ?_) (List.finRange 12) hs
  split
  · exact ht.frameStart i
  · exact ht

theorem endLoopedFrames : RingLaw (s.endLoopedFrames scr) := by
  refine foldl_keeps (P := RingLaw) (fun t i ht => ?_) (List.finRange 12) hs
  unfold State.endLoopedFrame
  split
  · exact (foldl_keeps (P := RingLaw) (fun _ _ hu => hu.activeLine i _) _ ht).frameEnd i none
  · exact ht

end RingLaw

end Sys2Proof.Machine
end

section
/-! PROOF. A commit keeps the law of the rings: until the slot stage no other screen's window changes what it reads, and there the windows of the screen give up what they read before it and take the newest-ready slots (R65, R66, R107, R109). -/

namespace Sys2Proof.Machine

/-! ## The stages before the slot stage -/

/-- A window of another screen. -/
def elsewhere (scr : ScreenIx) : WallWindow → Prop := fun w => screenOf w ≠ scr

namespace SameStore

variable {P : WallWindow → Prop} {scr : ScreenIx} {s t : State}

/-- A stage that leaves rings, front ends and the other compositors. -/
theorem ofOthers (hr : t.rings = s.rings) (hf : t.fronts = s.fronts) (hc : ∀ k, k ≠ scr → t.comps.get k = s.comps.get k) :
    SameStore (elsewhere scr) s t where
  rings := hr
  frames _ := by rw [hf]
  plans w hw := by rw [State.plan, hc _ hw]; exact ⟨rfl, rfl⟩

theorem setPool (s : State) (p : Pool) : SameStore P s (s.setPool p) := ofParts rfl rfl rfl

/-- A compositor keeps its plans. -/
theorem modComp (s : State) (scr : ScreenIx) {g : Compositor → Compositor} (hg : ∀ c, (g c).plans = c.plans) :
    SameStore P s (s.modComp scr g) where
  rings := rfl
  frames _ := rfl
  plans w _ := by
    simp only [State.plan, State.comps_modComp, Table.get_set]
    split
    · next e => rw [hg, e]; exact ⟨rfl, rfl⟩
    · exact ⟨rfl, rfl⟩

/-- A plan written on the screen. -/
theorem setPlan (s : State) (k : WindowIx) (q : Plan) : SameStore (elsewhere scr) s (s.setPlan (wallWindow scr k) q) :=
  ofOthers rfl rfl fun _ hj => Table.get_set_of_ne _ _ fun e => hj (e.symm.trans (State.screenOf_wallWindow scr k))

/-- A grant writes service and scaler of a plan (R47). -/
theorem offer (s : State) (n : ScalerIx) : SameStore P s (s.offer n) := by
  rcases offer_frame s n with e | ⟨w, m, e, self, others⟩
  · rw [e]
    exact setPool s _
  · refine ⟨by rw [e], fun i => by rw [e], fun v _ => ?_⟩
    by_cases h : w = v
    · subst h
      rw [self]
      exact ⟨rfl, rfl⟩
    · rw [others v h]
      exact ⟨rfl, rfl⟩

theorem giveScaler (s : State) (k : WindowIx) (service : Service) :
    SameStore (elsewhere scr) s (s.giveScaler (wallWindow scr k) service) := by
  unfold State.giveScaler
  split
  · exact (setPlan s k _).trans (offer _ _)
  · exact setPlan s k _

theorem leaveWindow (s : State) (k : WindowIx) : SameStore (elsewhere scr) s (s.leaveWindow scr k) := by
  unfold State.leaveWindow
  simp only
  split
  · exact (setPool s _).trans (setPlan _ k _)
  · exact refl s

theorem releaseWindow (s : State) (k : WindowIx) : SameStore (elsewhere scr) s (s.releaseWindow scr k) := by
  unfold State.releaseWindow
  simp only
  split
  · exact giveScaler s k _
  · exact refl s

theorem releasePasses (s : State) : SameStore (elsewhere scr) s (s.releasePasses scr) :=
  (foldl leaveWindow windowsInOrder s).trans (foldl releaseWindow windowsInOrder _)

theorem releaseStage (old : Compositor) (s : State) : SameStore (elsewhere scr) s (s.releaseStage old scr) := by
  unfold State.releaseStage
  simp only
  split
  · exact (setPool s _).trans (releasePasses _)
  · exact releasePasses s

theorem requestWindow (st : State × Bool) (k : WindowIx) :
    SameStore (elsewhere scr) st.1 (State.requestWindow scr st k).1 := by
  rcases State.requestWindow_cases scr st k with ⟨e, -⟩ | ⟨p, q, e, -⟩
  · rw [e]
    exact refl _
  · rw [e]
    exact (setPool _ p).trans (setPlan _ k q)

theorem asked (s : State) : SameStore (elsewhere scr) s (s.asked scr).1 := by
  have walk (ks : List WindowIx) (st : State × Bool) :
      SameStore (elsewhere scr) st.1 (ks.foldl (State.requestWindow scr) st).1 := by
    induction ks generalizing st with
    | nil => exact refl _
    | cons k ks ih => exact (requestWindow st k).trans (ih _)
  exact walk windowsInOrder (s, false)

theorem requestStage (s : State) : SameStore (elsewhere scr) s (s.requestStage scr) := by
  have placed : SameStore (elsewhere scr) (s.asked scr).1 (s.placed scr) :=
    foldl (fun t k => by rw [placeWindow_eq_setPlan]; exact setPlan t k _) windowsInOrder _
  exact ((asked s).trans placed).trans (.ofEvents (requestStage_onlyEvents s scr))

theorem planned (s : State) : SameStore (elsewhere scr) s (s.planned scr) :=
  ofOthers (planned_inputs s scr).2 (planned_inputs s scr).1 (SameServices.planned s).others

theorem requested (s : State) : SameStore (elsewhere scr) s (s.requested scr) :=
  ((planned s).trans (releaseStage _ _)).trans (requestStage _)

theorem released (s : State) : SameStore (elsewhere scr) s (s.released scr) := by
  have left (t : State) : SameStore (elsewhere scr) t (t.leaveAll scr) := by
    rw [leaveAll_eq]
    exact setPool t _
  exact ((planned s).trans (left _)).trans (releasePasses _)

theorem standbyRelease (s : State) (k : WindowIx) : SameStore (elsewhere scr) s (s.standbyRelease scr k) := by
  unfold State.standbyRelease
  simp only
  split
  · exact refl s
  · exact giveScaler s k _

end SameStore

/-! ## Slots given up and taken (R107) -/

/-- The windows of a list on one screen read other slots. -/
def Reads.assign (v : Reads) (scr : ScreenIx) (ks : List WindowIx) (x : WindowIx → Option (InputIx × SlotIx)) : Reads :=
  fun w => if screenOf w = scr ∧ windowOf w ∈ ks then x (windowOf w) else v w

theorem assign_cons (v : Reads) (scr : ScreenIx) (k : WindowIx) (ks : List WindowIx)
    (x : WindowIx → Option (InputIx × SlotIx)) :
    v.assign scr (k :: ks) x = Reads.assign (Function.update v (wallWindow scr k) (x k)) scr ks x := by
  funext w
  by_cases e : w = wallWindow scr k
  · subst e
    simp [Reads.assign]
  · have other : ¬ (screenOf w = scr ∧ windowOf w = k) := fun ⟨hs, hk⟩ => e (by rw [← hs, ← hk, State.wallWindow_of])
    simp only [Reads.assign, Function.update_of_ne e, List.mem_cons, and_or_left, other, false_or]

/-- All windows of a screen read other slots, and no other window does. -/
theorem assign_screen (v : Reads) (scr : ScreenIx) (x : WindowIx → Option (InputIx × SlotIx)) (w : WallWindow) :
    v.assign scr windowsInOrder x w = if screenOf w = scr then x (windowOf w) else v w := by
  simp only [Reads.assign, mem_windowsInOrder, and_true]

/-- The later of two assignments to the windows of a screen counts. -/
theorem assign_assign (v : Reads) (scr : ScreenIx) (x y : WindowIx → Option (InputIx × SlotIx)) :
    (v.assign scr windowsInOrder x).assign scr windowsInOrder y = v.assign scr windowsInOrder y := by
  funext w
  simp only [assign_screen]
  split <;> rfl

namespace Stored

variable {v : Reads} {scr : ScreenIx} {s : State}

/-- A window whose slot is given up reads none (R107). -/
theorem giveUpSlot (h : Stored v s) {old : Compositor} {k : WindowIx} {w : WallWindow} (hv : v w = (old.plans.get k).read) :
    Stored (Function.update v w none) (s.giveUpSlot old k) := by
  cases hq : (old.plans.get k).read with
  | none =>
    have same : Function.update v w none = v := Function.update_eq_self_iff.mpr (hv.trans hq).symm
    rw [giveUpSlot_of_none old s k (read_eq_none.mp hq), same]
    exact h
  | some x =>
    obtain ⟨i, n⟩ := x
    obtain ⟨hi, hn⟩ := read_eq_some.mp hq
    have count (j : InputIx) (m : SlotIx) := count_update v w none j m
    simp only [hv, hq, reduceCtorEq, if_false, Nat.add_zero, Option.some.injEq, Prod.mk.injEq] at count
    rw [giveUpSlot_of_some old s k hi hn]
    intro j
    by_cases e : j = i
    · subst e
      simp only [Table.get_set_self]
      refine (h j).giveUp ?_ fun m hm => ?_
      · simpa using (count j n).symm
      · simpa [Ne.symm hm] using count j m
    · have same : Reads.count (Function.update v w none) j = v.count j := funext fun m => by simpa [Ne.symm e] using count j m
      rw [Table.get_set_of_ne _ _ (Ne.symm e), same]
      exact h j

/-- A window that reads no slot takes the one it is to read (R65, R107). -/
theorem takeSlot (h : Stored v s) {k : WindowIx} {w : WallWindow} (hv : v w = none) :
    Stored (Function.update v w (s.slotFor scr k)) (s.takeSlot scr k) := by
  cases hq : s.slotFor scr k with
  | none =>
    have same : Function.update v w none = v := Function.update_eq_self_iff.mpr hv.symm
    rw [takeSlot_of_none s hq, same]
    exact h
  | some x =>
    obtain ⟨i, n⟩ := x
    obtain ⟨-, -, -, newest⟩ := (slotFor_eq_some s scr k i n).mp hq
    have count (j : InputIx) (m : SlotIx) := count_update v w (some (i, n)) j m
    simp only [hv, reduceCtorEq, if_false, Nat.add_zero, Option.some.injEq, Prod.mk.injEq] at count
    rw [takeSlot_of_some s hq]
    intro j
    by_cases e : j = i
    · subst e
      simp only [Table.get_modify_self]
      refine (h j).take newest ?_ fun m hm => ?_
      · simpa using count j n
      · simpa [Ne.symm hm] using count j m
    · have same : Reads.count (Function.update v w (some (i, n))) j = v.count j :=
        funext fun m => by simpa [Ne.symm e] using count j m
      simp only [Table.get_modify_of_ne _ _ (Ne.symm e), same]
      exact h j

/-- A walk over windows of one screen, each of which reads `y` before its turn and `x` after it. -/
theorem walk {I : State → Prop} {f : State → WindowIx → State} {x y : WindowIx → Option (InputIx × SlotIx)}
    (hf : ∀ s v k, I s → Stored v s → v (wallWindow scr k) = y k →
      I (f s k) ∧ Stored (Function.update v (wallWindow scr k) (x k)) (f s k))
    (ks : List WindowIx) (hd : ks.Nodup) (hI : I s) (h : Stored v s) (hv : ∀ k ∈ ks, v (wallWindow scr k) = y k) :
    Stored (v.assign scr ks x) (ks.foldl f s) := by
  induction ks generalizing s v with
  | nil =>
    have same : v.assign scr [] x = v := funext fun w => by simp [Reads.assign]
    rw [same]
    exact h
  | cons k ks ih =>
    obtain ⟨hk, hd⟩ := List.nodup_cons.mp hd
    obtain ⟨hI, h⟩ := hf s v k hI h (hv k List.mem_cons_self)
    rw [assign_cons]
    refine ih hd hI h fun j hj => ?_
    have other : wallWindow scr j ≠ wallWindow scr k := fun e => hk <| by
      rwa [← State.windowOf_wallWindow scr k, ← e, State.windowOf_wallWindow]
    rw [Function.update_of_ne other]
    exact hv j (List.mem_cons_of_mem k hj)

/-- The windows of the screen have given up the slots that they read before the commit. -/
theorem giveUpSlots (h : Stored v s) {old : Compositor} (hv : ∀ k, v (wallWindow scr k) = (old.plans.get k).read) :
    Stored (v.assign scr windowsInOrder fun _ => none) (windowsInOrder.foldl (State.giveUpSlot old) s) :=
  walk (I := fun _ => True) (x := fun _ => none) (y := fun k => (old.plans.get k).read)
    (fun _ _ _ _ ht hk => ⟨trivial, ht.giveUpSlot hk⟩) windowsInOrder windowsInOrder_nodup trivial h fun k _ => hv k

/-- The windows of the screen have taken the slots that they are to read. -/
theorem takeSlots (h : Stored v s) (hv : ∀ k, v (wallWindow scr k) = none) :
    Stored (v.assign scr windowsInOrder (s.slotFor scr)) (windowsInOrder.foldl (State.takeSlot scr) s) := by
  refine walk (I := fun t => t.slotFor scr = s.slotFor scr) (x := s.slotFor scr) (y := fun _ => none)
    (fun t u k hI ht hk => ⟨?_, ?_⟩) windowsInOrder windowsInOrder_nodup rfl h fun k _ => hv k
  · exact (funext fun j => slotFor_takeSlot t scr j k).trans hI
  · rw [← hI]
    exact ht.takeSlot hk

end Stored

/-! ## The commit -/

/-- What a window reads when its plan names the slot it is to read. -/
theorem read_slotFor (s : State) (scr : ScreenIx) (k : WindowIx) :
    Plan.read { (s.comps.get scr).plans.get k with slot := (s.slotFor scr k).map Prod.snd } = s.slotFor scr k := by
  cases h : s.slotFor scr k with
  | none => exact read_eq_none.mpr (.inr rfl)
  | some x =>
    obtain ⟨i, n⟩ := x
    obtain ⟨source, -⟩ := (slotFor_eq_some s scr k i n).mp h
    exact read_eq_some.mpr ⟨source, rfl⟩

/-- A window that is to read a slot has a source. -/
theorem source_of_slotFor (s : State) (scr : ScreenIx) (k : WindowIx) (h : (s.slotFor scr k).map Prod.snd ≠ none) :
    ((s.comps.get scr).plans.get k).source ≠ none := by
  cases hx : s.slotFor scr k with
  | none => exact absurd (by rw [hx]; rfl) h
  | some x =>
    obtain ⟨i, n⟩ := x
    obtain ⟨source, -⟩ := (slotFor_eq_some s scr k i n).mp hx
    rw [source]
    nofun

theorem comps_givenUp (old : Compositor) (t : State) : (windowsInOrder.foldl (State.giveUpSlot old) t).comps = t.comps :=
  foldl_keeps (P := fun u => u.comps = t.comps) (fun u k hu => (comps_giveUpSlot old u k).trans hu) windowsInOrder rfl

/-- Slots given up change nothing in what a window is to read (R106). -/
theorem slotFor_givenUp (old : Compositor) (t : State) (scr : ScreenIx) :
    (windowsInOrder.foldl (State.giveUpSlot old) t).slotFor scr = t.slotFor scr := by
  funext k
  have comps := comps_givenUp old t
  exact slotFor_congr (.foldl (SamePictures.giveUpSlot _) windowsInOrder _) (by rw [comps]) (by rw [comps])

section Commit
variable {s : State} (hs : RingLaw s) (scr : ScreenIx)
include hs

/-- The slots that the windows of the screen read before the commit are given up, at a moment when only their own plans have changed. -/
theorem stored_givenUp {t : State} (h : SameStore (elsewhere scr) s t) :
    Stored (s.reads.assign scr windowsInOrder fun _ => none) (windowsInOrder.foldl (State.giveUpSlot (s.comps.get scr)) t) :=
  (h.stored ((ringLaw_iff s).mp hs).1).giveUpSlots fun k => congrArg Plan.read (plan_wallWindow s scr k)

/-- What is left to show of a screen's commit: what its windows read in the end, and that the others stand. -/
theorem ringLaw_of_assigned {t : State} {x : WindowIx → Option (InputIx × SlotIx)}
    (h : Stored (s.reads.assign scr windowsInOrder x) t)
    (hothers : ∀ w, elsewhere scr w → (t.plan w).source = (s.plan w).source ∧ (t.plan w).slot = (s.plan w).slot)
    (hread : ∀ k, ((t.comps.get scr).plans.get k).read = x k)
    (hnamed : ∀ k, ((t.comps.get scr).plans.get k).slot ≠ none → ((t.comps.get scr).plans.get k).source ≠ none) :
    RingLaw t := by
  have reads : t.reads = s.reads.assign scr windowsInOrder x := by
    funext w
    rw [assign_screen]
    split
    · next e => rw [← hread, ← e]; rfl
    · next e =>
      obtain ⟨source, slot⟩ := hothers w e
      simp only [State.reads, Plan.read, source, slot]
  refine (ringLaw_iff t).mpr ⟨reads ▸ h, fun w => ?_⟩
  by_cases e : screenOf w = scr
  · subst e
    exact hnamed (windowOf w)
  · obtain ⟨source, slot⟩ := hothers w e
    rw [source, slot]
    exact ((ringLaw_iff s).mp hs).2 w

/-- The slot stage of a screen that stays ACTIVE (R65). -/
theorem ringLaw_served : RingLaw (s.served scr) := by
  have requested : SameStore (elsewhere scr) s (s.requested scr) := .requested s
  have plan (k : WindowIx) := plans_slotStage (s.requested scr) scr (s.comps.get scr) k
  have taken := (stored_givenUp hs scr requested).takeSlots (scr := scr) fun k => by simp [assign_screen]
  rw [slotFor_givenUp, assign_assign] at taken
  rw [served_eq_slotStage]
  refine ringLaw_of_assigned hs scr taken (fun w hw => ?_) (fun k => ?_) fun k => ?_
  · rw [State.plan, (SameServices.slotStage (scr := scr) _ _).others _ hw]
    exact requested.plans w hw
  · rw [plan, read_slotFor]
  · simp only [plan]
    exact source_of_slotFor (s.requested scr) scr k

/-- The standby stage of a screen that enters STANDBY (R66, R109). -/
theorem ringLaw_standby : RingLaw ((s.released scr).standbyStage (s.comps.get scr) scr) := by
  have given : SameStore (elsewhere scr) s (windowsInOrder.foldl (State.standbyRelease scr) (s.released scr)) :=
    (SameStore.released s).trans (.foldl SameStore.standbyRelease windowsInOrder _)
  have asleep (k : WindowIx) :
      ((((s.released scr).standbyStage (s.comps.get scr) scr).comps.get scr).plans.get k).slot = none := by
    rw [comp_standbyStage, plan_sleep, slot_sleep]
  refine ringLaw_of_assigned hs scr (x := fun _ => none) (stored_givenUp hs scr given) (fun w hw => ?_)
    (fun k => read_eq_none.mpr (.inr (asleep k))) fun k hslot => absurd (asleep k) hslot
  rw [standbyStage_eq, State.plan, State.comps_modComp, Table.get_set_of_ne _ _ (Ne.symm hw), State.freed,
    comps_givenUp]
  exact given.plans w hw

end Commit

/-- A frame of a screen begins, which touches no plan (R59, R92). -/
theorem RingLaw.startFrame {s : State} (hs : RingLaw s) (scr : ScreenIx) (leadIn : Bool) : RingLaw (s.startFrame scr leadIn) := by
  unfold State.startFrame
  refine RingLaw.startLoopedFrames (hs.congr ?_) scr
  exact .modComp s scr fun _ => rfl

theorem RingLaw.commit {s : State} (hs : RingLaw s) (scr : ScreenIx) : RingLaw (s.commit scr) := by
  rw [commit_eq]
  split
  · exact ringLaw_standby hs scr
  · exact (ringLaw_served hs scr).startFrame scr false

end Sys2Proof.Machine
end

section
/-! PROOF. Every command keeps the law of the Frame Store: most touch no ring, no frame in progress and no plan, and the others are events of inputs, wakes, commits, power-on and wall reset (R102 to R109). -/

namespace Sys2Proof.Machine

/-! ## What does not concern the Frame Store -/

namespace SameStore

variable {P : WallWindow → Prop}

theorem setLink (s : State) (l : Link) (x : LinkState) : SameStore P s (s.setLink l x) := ofParts (by simp) (by simp) (by simp)

theorem modLink (s : State) (l : Link) (g : LinkState → LinkState) : SameStore P s (s.modLink l g) := setLink s l _

theorem reply (s : State) (l : Link) (body : List Byte) : SameStore P s (s.reply l body) := modLink s l _

theorem takeEdit (s : State) (l : Link) : SameStore P s (s.takeEdit l) := (modLink s l _).trans (ofParts rfl rfl rfl)

theorem linkReset (s : State) (l : Link) : SameStore P s (s.linkReset l) :=
  (modLink s l LinkState.reset).trans (ofParts rfl rfl rfl)

theorem refuse (s : State) (l : Link) (kind : EditKind) (screens : List ScreenIx) (reason : RefusalReason) :
    SameStore P s (s.refuse l kind screens reason) := by
  rw [refuse_frame]
  exact setLink s l _

theorem setPin (s : State) (scr : ScreenIx) (pin : Pin) : SameStore P s (s.setPin scr pin) := ofParts rfl rfl rfl

theorem setHold (s : State) (scr : ScreenIx) (x : Hold) : SameStore P s (s.setHold scr x) := ofParts rfl rfl rfl

theorem settleGap (s : State) (l : Link) : SameStore P s (s.settleGap l) := by
  unfold State.settleGap
  simp only
  split
  · exact setLink s l _
  · exact refl s

theorem pinEdit (s : State) (l : Link) (kind : EditKind) (scr : ScreenIx) (pin : Pin) :
    SameStore P s (s.pinEdit l kind scr pin) := by
  unfold State.pinEdit
  split
  · split
    · exact (setPin s scr pin).trans (.ofEvents (OnlyEvents.raise _ _ _ _))
    · exact refuse s l kind _ _
  · exact setPin s scr pin

theorem unpinScreen (s : State) (l : Link) (scr : ScreenIx) : SameStore P s (s.unpinScreen l scr) := by
  unfold State.unpinScreen
  split
  · exact refl s
  · exact pinEdit s l _ _ _

theorem expireHold (s : State) (scr : ScreenIx) : SameStore P s (s.expireHold scr) := by
  unfold State.expireHold
  split
  · exact (setHold s scr .clear).trans (.ofEvents (OnlyEvents.raise _ _ _ _))
  · exact refl s

theorem answer (s : State) (l : Link) : SameStore P s (s.answer l) := by
  unfold State.answer
  split
  · exact modLink s l _
  · exact refl s

/-- Front ends of which only what is no frame in progress changes. -/
theorem ofFrames {s t : State} (hr : t.rings = s.rings) (hf : ∀ i, (t.fronts.get i).frame = (s.fronts.get i).frame)
    (hp : ∀ w, t.plan w = s.plan w) : SameStore P s t where
  rings := hr
  frames i := by rw [FrontEnd.slot, hf]; rfl
  plans w _ := by rw [hp]; exact ⟨rfl, rfl⟩

/-- Time runs frames of screens and timers of inputs, and no frame in progress (log 2). -/
theorem elapse (n : Nat) (s : State) : SameStore P s (s.elapse n) :=
  ofFrames (State.rings_elapse n s) (frame_elapse n s) fun w => by rw [State.plan, State.comp_elapse]; rfl

theorem snapshots (s : State) (mode : SnapshotMode) (p : InputIx → Bool) : SameStore P s (s.snapshots mode p) := by
  have frame := State.snapshots_frame s mode p
  refine ofFrames frame.rings (fun i => ?_) fun w => by rw [State.plan, frame.comps]; rfl
  rw [State.snapshots_front]
  split <;> rfl

theorem popAudio (s : State) : SameStore P s s.popAudio :=
  ofFrames rfl (fun i => by rw [State.popAudio, Table.get_map]) fun _ => rfl

theorem judgeBlock (s : State) : SameStore P s s.judgeBlock := by
  have judged : SameStore P s (s.setDetector s.detector.judge) := ofParts rfl rfl rfl
  unfold State.judgeBlock
  split
  · simp only
    split
    · exact judged
    · exact judged.trans (.ofEvents (OnlyEvents.raiseAnnounce _ _))
  · exact refl s

theorem sampleZone (an : Sample) (s : State) (k : ZoneIx) : SameStore P s (s.sampleZone an k) :=
  (ofParts rfl rfl rfl : SameStore P s (s.setZone k (s.sampled an k))).trans (.ofEvents (sampleZone_onlyEvents an s k))

theorem samplePeriod (an : Sample) (s : State) : SameStore P s (s.samplePeriod an) := by
  have zones : SameStore P s (zonesInOrder.foldl (State.sampleZone an) s.judgeBlock) :=
    (judgeBlock s).trans (foldl (sampleZone an) zonesInOrder _)
  have sampled (t : State) (d : Detector) : SameStore P t (t.setDetector d) := ofParts rfl rfl rfl
  exact (zones.trans (popAudio _)).trans (sampled _ _)

/-- A request of any kind but WALL_RESET is a matter of its link, and of the holds at a link reset (R163 to R170). -/
theorem takeKind (s : State) (l : Link) (tag : Byte) {k : RequestKind} (hk : k ≠ .wallReset) (f : List Byte) :
    SameStore P s (s.takeKind l tag k f) := by
  have replied (g : LinkState → LinkState) (body : List Byte) : SameStore P s ((s.modLink l g).reply l body) :=
    (modLink s l g).trans (reply _ l body)
  cases k with
  | edit e =>
    simp only [State.takeKind, State.takeEditRequest]
    split
    · exact reply s l _
    · split
      · exact replied _ _
      · exact reply s l _
  | query q =>
    simp only [State.takeKind, State.takeQueryRequest]
    split
    · exact reply s l _
    · split
      · exact replied _ _
      · exact reply s l _
  | identify => exact reply s l _
  | takeEvents => exact replied _ _
  | setEvents =>
    simp only [State.takeKind, State.takeSetEvents]
    split
    · exact replied _ _
    · exact reply s l _
  | wallReset => exact absurd rfl hk
  | linkReset => exact (linkReset s l).trans (reply _ l _)

end SameStore

/-! ## Power-on and wall reset (R57, R102) -/

/-- All windows' plans are OFF, so that no slot is read. -/
theorem ringLaw_of_off {s : State} (h : ∀ i, (s.rings.get i).Lawful (s.fronts.get i).slot fun _ => 0)
    (hoff : ∀ w, s.plan w = .off) : RingLaw s := by
  have unread (i : InputIx) : s.reads.count i = fun _ => 0 :=
    funext fun n => count_none (fun w => by rw [State.reads, hoff]; rfl) i n
  refine (ringLaw_iff s).mpr ⟨fun i => unread i ▸ h i, fun w hw => ?_⟩
  rw [hoff] at hw
  exact absurd rfl hw

theorem ringLaw_afterPowerOn (rank : Rank) (rateA rateB : LineRate) (pending : List Instr) :
    RingLaw (.afterPowerOn rank rateA rateB pending) := by
  refine ringLaw_of_off (fun i n => ?_) (State.plan_afterPowerOn _ _ _ _)
  rw [State.ring_afterPowerOn, State.front_afterPowerOn, slot_powerOn]
  exact free_fits nofun nofun

namespace RingLaw

variable {s : State} (hs : RingLaw s)
include hs

/-- The windows give up their slots, and the inputs looped from screens that wake take the start of a frame (R79, R102). -/
theorem wallReset : RingLaw s.wallReset := by
  have cleared : RingLaw s.wallClear :=
    ringLaw_of_off (fun i => ring_wallClear s i ▸ (hs.ring i).dropReaders) fun w => by
      rw [State.plan, State.wallClear, Table.get_map]
      exact plan_powerOn _
  exact foldl_keeps (P := RingLaw) (fun _ scr ht => ht.startLoopedFrames scr) s.sleeping cleared

theorem elapse (n : Nat) : RingLaw (s.elapse n) := hs.congr (.elapse n s)

/-! ## Requests and receive lines (R157 to R164) -/

theorem takeFrame (l : Link) (kind tag : Byte) (f : List Byte) : RingLaw (s.takeFrame l kind tag f) := by
  unfold State.takeFrame
  split
  · next k _ =>
    unfold State.takeNamed
    split
    · by_cases hk : k = .wallReset
      · subst hk
        simp only [State.takeKind, State.takeWallReset]
        split
        · exact hs.congr (.reply s l _)
        · exact hs.wallReset.congr (.reply _ l _)
      · exact hs.congr (.takeKind s l tag hk f)
    · exact hs.congr (.reply s l _)
  · exact hs.congr (.reply s l _)

theorem complete (l : Link) (kind tag : Byte) (f : List Byte) : RingLaw (s.complete l kind tag f) := by
  have arrived : RingLaw (s.modLink l fun x => x.arrived s.clock) := hs.congr (.modLink s l _)
  unfold State.complete
  split
  · simp only
    split
    · exact arrived.takeFrame l kind tag f
    · exact arrived.congr (.modLink _ l _)
  · exact hs

theorem takeBody (l : Link) (body : List Byte) : RingLaw (s.takeBody l body) := by
  unfold State.takeBody
  split
  · exact hs.takeFrame l _ _ _
  · exact hs
  · exact hs

theorem parseOnce (l : Link) {t : State} (h : s.parseOnce l = some t) : RingLaw t := by
  have next {t : State} (h : (s.link l).takeNext.map (s.setLink l) = some t) : RingLaw t := by
    obtain ⟨x, -, rfl⟩ := Option.map_eq_some_iff.mp h
    exact hs.congr (.setLink s l x)
  unfold State.parseOnce at h
  simp only at h
  split at h
  · split at h
    · cases h
      exact (hs.congr (.setLink s l _)).takeBody l _
    · cases h
  all_goals exact next h

theorem parseFor (l : Link) (n : Nat) : RingLaw (State.parseFor l n s) := by
  induction n generalizing s with
  | zero => exact hs
  | succ n ih =>
    unfold State.parseFor
    split
    · next h => exact ih (hs.parseOnce l h)
    · exact hs

theorem parse (l : Link) : RingLaw (s.parse l) := (hs.parseFor l _).congr (.settleGap _ l)

theorem arrive (l : Link) (b : Byte) (stop : Bool) : RingLaw (s.arrive l b stop) := (hs.congr (.modLink s l _)).parse l

theorem holdZero (l : Link) : RingLaw (s.holdZero l) := by
  unfold State.holdZero
  split
  · exact hs
  · exact (hs.elapse _).arrive l 0 false

theorem breakLine (l : Link) : RingLaw (s.breakLine l) := hs.congr ((SameStore.modLink s l _).trans (.linkReset _ l))

theorem endTransmission (l : Link) : RingLaw (s.endTransmission l) := RingLaw.parse (hs.congr (.modLink s l _)) l

/-! ## Applications (R117 to R132) -/

/-- A wake copies the flag and begins a lead-in frame (R78). -/
theorem wake (scr : ScreenIx) : RingLaw (s.wake scr) := by
  unfold State.wake
  refine RingLaw.startFrame (hs.congr ?_) scr true
  exact .modComp s scr fun _ => rfl

theorem writeStaged (scr : ScreenIx) (r : ScreenRecord) : RingLaw (s.writeStaged scr r) := by
  have written : RingLaw (s.setStaged scr r) := hs.congr (.ofParts rfl rfl rfl)
  unfold State.writeStaged
  simp only
  split
  · exact written.wake scr
  · exact written

theorem screenEdit (l : Link) (kind : EditKind) (hold : Bool) (scr : ScreenIx) (write : ScreenRecord → ScreenRecord) :
    RingLaw (s.screenEdit l kind hold scr write) := by
  unfold State.screenEdit
  split
  · exact hs.congr (.refuse s l kind _ _)
  · exact (hs.writeStaged scr _).congr (.setHold _ scr _)

theorem groupEdit (l : Link) (screens : List ScreenIx) (c : GroupChange) : RingLaw (s.groupEdit l screens c) :=
  (foldl_keeps (P := RingLaw) (fun _ k ht => ht.writeStaged k _) _ hs).congr (.refuse _ _ _ _ _)

end RingLaw

/-- What the application of an edit of a link does (R119 to R132). -/
def State.applyEdit (s : State) (l : Link) : Edit → State
  | .setMain hold scr req => (s.takeEdit l).screenEdit l .setMain hold scr (ScreenRecord.setMain req)
  | .setInset hold scr k req => (s.takeEdit l).screenEdit l .setInset hold scr (ScreenRecord.setInset k req)
  | .clearInset hold scr k => (s.takeEdit l).screenEdit l .clearInset hold scr (ScreenRecord.clearInset k)
  | .clearScreen hold scr => (s.takeEdit l).screenEdit l .clearScreen hold scr ScreenRecord.clearAll
  | .swap hold scr k => (s.takeEdit l).screenEdit l .swap hold scr (ScreenRecord.swap k)
  | .setScreen hold scr x => (s.takeEdit l).screenEdit l .setScreen hold scr (ScreenRecord.setSettings x)
  | .group base limit invert c => (s.takeEdit l).groupEdit l (groupScreens base limit invert) c
  | .pin scr minutes => (s.takeEdit l).pinScreen l scr minutes
  | .unpin scr => (s.takeEdit l).unpinScreen l scr
  | .setInput i x => (s.takeEdit l).applyInputSettings i x
  | .setZone k r d => (s.takeEdit l).applyZone k r d
  | .snapshotCounters inputs => (s.takeEdit l).snapshots .manual fun i => inputs.getLsbD i.val

/-- The application commands (R117). -/
def applications : List Instr :=
  [.applySetMain, .applySetInset, .applyClearInset, .applyClearScreen, .applySwap, .applySetScreen, .applyGroup, .applyPin,
    .applyUnpin, .applySetInput, .applySetZone, .applySnapshotCounters]

/-- An application command applies the edit that alternation chooses, or does nothing (R117, log 3). -/
theorem exec_application {c : Instr} (hc : c ∈ applications) (s : State) :
    (∃ l e, s.chosen = some (l, e) ∧ exec c s = .next (s.applyEdit l e)) ∨ exec c s = .next s := by
  simp only [applications, List.mem_cons, List.not_mem_nil, or_false] at hc
  rcases hc with rfl | rfl | rfl | rfl | rfl | rfl | rfl | rfl | rfl | rfl | rfl | rfl <;>
    simp only [exec, execApplySetMain, execApplySetInset, execApplyClearInset, execApplyClearScreen, execApplySwap,
      execApplySetScreen, execApplyGroup, execApplyPin, execApplyUnpin, execApplySetInput, execApplySetZone,
      execApplySnapshotCounters]
  all_goals
    split
    · next h => exact .inl ⟨_, _, h, rfl⟩
    · exact .inr rfl

namespace RingLaw

variable {s : State} (hs : RingLaw s)
include hs

theorem applyEdit (l : Link) (e : Edit) : RingLaw (s.applyEdit l e) := by
  have taken : RingLaw (s.takeEdit l) := hs.congr (.takeEdit s l)
  cases e with
  | setMain hold scr | setInset hold scr | clearInset hold scr | clearScreen hold scr | swap hold scr | setScreen hold scr =>
    exact taken.screenEdit l _ hold scr _
  | group base limit invert c => exact taken.groupEdit l _ c
  | pin scr minutes => exact taken.congr (.pinEdit _ l _ scr _)
  | unpin scr => exact taken.congr (.unpinScreen _ l scr)
  | setInput i x => exact taken.applyInputSettings i x
  | setZone k r d => exact taken.congr (.ofParts rfl rfl rfl)
  | snapshotCounters inputs => exact taken.congr (.snapshots _ _ _)

theorem application {c : Instr} (hc : c ∈ applications) : Leads RingLaw (Machine.exec c s) := by
  rcases exec_application hc s with ⟨l, e, -, h⟩ | h
  · rw [h]
    exact .next (hs.applyEdit l e)
  · rw [h]
    exact .next hs

/-! ## Every command -/

theorem execActiveLine (i : InputIx) (pixels : List Colour) : Leads RingLaw (execActiveLine i pixels s) := by
  unfold Machine.execActiveLine
  split
  · exact .next (hs.activeLine i pixels)
  · exact .ite (.next (hs.activeLine i _)) (.next hs)

theorem execFrameEnd (i : InputIx) (audio : Option (List Stereo)) : Leads RingLaw (execFrameEnd i audio s) := by
  unfold Machine.execFrameEnd
  split
  · exact .next (hs.frameEnd i audio)
  · exact .ite (.next hs) (.next (hs.frameEnd i none))

theorem exec (c : Instr) : Leads RingLaw (exec c s) := by
  cases c with
  | powerOn rank rateA rateB => exact .next (ringLaw_afterPowerOn rank rateA rateB s.pending)
  | setMain l tag f | setInset l tag f | clearInset l tag f | clearScreen l tag f | swap l tag f | setScreen l tag f
  | group l tag f | pin l tag f | unpin l tag f | setInput l tag f | setZone l tag f | snapshotCounters l tag f
  | readScreen l tag f | readWindow l tag f | readInput l tag f | readZone l tag f | readPool l tag f
  | readCounters l tag f | readLink l tag f | identify l tag f | takeEvents l tag f | setEvents l tag f
  | wallReset l tag f | linkReset l tag f => exact .next (hs.complete l _ tag f)
  | unknownKind l kind tag f => exact .next (hs.complete l kind tag f)
  | applySetMain | applySetInset | applyClearInset | applyClearScreen | applySwap | applySetScreen | applyGroup | applyPin
  | applyUnpin | applySetInput | applySetZone | applySnapshotCounters => exact hs.application (by simp [applications])
  | answerEvent l => exact .next (hs.congr (.answer s l))
  | oneSecondTick => exact .next (hs.elapse _)
  | pinLapsed scr => exact .ite (.next hs) (.next (hs.elapse _))
  | holdExpired scr => exact .ite (.next hs) (.next ((hs.elapse _).congr (.expireHold _ scr)))
  | arrival l wait b stop => exact .next ((hs.elapse wait).arrive l b stop)
  | interByteTimeout l => exact .ite (.next ((hs.elapse _).congr (.settleGap _ l))) (.next hs)
  | lineBreak l => exact .next (((hs.holdZero l).elapse _).breakLine l)
  | transmissionEnd l => exact .ite (.next hs) (.next ((hs.elapse _).endTransmission l))
  | frameStart i wait => exact .ite (.next ((hs.elapse wait).frameStart i)) (.next (hs.elapse wait))
  | activeLine i pixels => exact hs.execActiveLine i pixels
  | frameEnd i audio => exact hs.execFrameEnd i audio
  | acquisitionTimerExpiry i => exact .ite (.next hs) (.next ((hs.elapse _).acquisitionExpiry i))
  | missIntervalExpiry i => exact .ite (.next hs) (.next ((hs.elapse _).missExpiry i))
  | slateHoldExpiry i => exact .ite (.next ((hs.elapse _).slateExpiry i)) (.next hs)
  | samplePeriod an => exact .next (hs.congr (.samplePeriod an s))
  | blockJudgement => exact .next (hs.congr (.judgeBlock s))
  | boundary scr => exact .ite (.next hs) (.next (((hs.elapse _).endLoopedFrames scr).commit scr))

end RingLaw

/-- Settles O58: every command keeps the law of the Frame Store, the passing of time keeps it, and the queue of commands has no part in it. -/
theorem everyStepKeepsTheRingLaw : Obligations.EveryStepKeepsTheRingLaw := fun _ t hs h =>
  step_keeps (P := RingLaw) (fun _ _ hs => hs.congr (.ofParts rfl rfl rfl)) (fun c _ hs => hs.exec c)
    (fun n _ hs => hs.elapse n) hs t h

end Sys2Proof.Machine
end

section
/-! PROOF. Every command answers a next state, with each link reached by operations of a link and the queue of commands as it stands; and the operations of a link keep its limits (R125, R133, R154, R157, R166, R168). -/

namespace Sys2Proof.Machine

/-! ## One link -/

/-- Every error count is at most 255 (R168). -/
def ErrorCounts.Bounded (e : ErrorCounts) : Prop :=
  e.badCheck ≤ 255 ∧ e.length ≤ 255 ∧ e.timeout ≤ 255 ∧ e.overrun ≤ 255 ∧ e.framing ≤ 255 ∧ e.breaks ≤ 255

/-- One operation of a link; time, arrivals, the parser, requests, applications, answers and resets do no other. -/
inductive LinkOp : LinkState → LinkState → Prop where
  /-- The receive side: FIFO, parser, arrivals and error counts (R157 to R161, R168). -/
  | receiver (x : LinkState) (fifo : List RxItem) (parser : Parser) (lastArrival : Option Nat) (zero : LineZero)
      (errors : ErrorCounts) (hfifo : fifoLevel x.fifo ≤ 32 → fifoLevel fifo ≤ 32)
      (herrors : x.errors.Bounded → errors.Bounded) :
      LinkOp x { x with fifo := fifo, parser := parser, lastArrival := lastArrival, zero := zero, errors := errors }
  /-- Events raised, cleared or configured, and refusals recorded or emptied (R125, R172 to R176). -/
  | notices (x : LinkState) (events : EventState) (record : Option RefusalRecord) (refusals : Nat)
      (h : x.refusals ≤ 255 → refusals ≤ 255) :
      LinkOp x { x with events := events, record := record, refusals := refusals }
  /-- Time passes for the transmitter (R156). -/
  | sending (x : LinkState) (txLeft : Nat) : LinkOp x { x with txLeft := txLeft }
  | powerOn (x : LinkState) (rate : LineRate) : LinkOp x (.powerOn rate)
  | reset (x : LinkState) : LinkOp x x.reset
  | wallReset (x : LinkState) : LinkOp x x.wallReset
  /-- An immediate reply enters a queue with a free place (R163). -/
  | reply (x : LinkState) (body : List Byte) (h : x.replyRoom = true) : LinkOp x (x.enterReply body)
  /-- An accepted edit (R164). -/
  | queueEdit (x : LinkState) (e : Edit) (h : x.edits.length < 8) : LinkOp x { x with edits := x.edits ++ [e] }
  /-- An accepted query (R133). -/
  | ask (x : LinkState) (tag : Byte) (q : Query) (h : x.query = .empty) :
      LinkOp x { x with query := .waiting tag q, barrier := some x.edits.length }
  /-- The head edit is applied (R118). -/
  | takeEdit (x : LinkState) : LinkOp x x.afterApplication
  /-- A query is answered (R134). -/
  | answer (x : LinkState) (body : List Byte) (tag : Byte) (q : Query) (h : x.query = .waiting tag q) :
      LinkOp x (x.placeResult body)
  /-- A frame has been sent (R156, R166). -/
  | endFrame (x : LinkState) : LinkOp x x.endFrame

/-- Events alone. -/
theorem LinkOp.events (x : LinkState) (events : EventState) : LinkOp x { x with events := events } :=
  .notices x events x.record x.refusals id

/-! ### The receive side -/

theorem errorUp_le (n : Nat) : errorUp n ≤ 255 := by
  unfold errorUp countUp
  split <;> omega

/-- The parser's work on a byte or a cut. -/
def OnlyParser (x y : LinkState) : Prop :=
  ∃ parser errors, y = { x with parser := parser, errors := errors } ∧ (x.errors.Bounded → errors.Bounded)

theorem setPhase_onlyParser (x : LinkState) (ph : Phase) : OnlyParser x (x.setPhase ph) := ⟨_, x.errors, rfl, id⟩

theorem abandonForGap_onlyParser (x : LinkState) : OnlyParser x x.abandonForGap :=
  ⟨_, _, rfl, fun ⟨check, length, _, overrun, framing, breaks⟩ => ⟨check, length, errorUp_le _, overrun, framing, breaks⟩⟩

theorem OnlyParser.trans {x y z : LinkState} (h : OnlyParser x y) (k : OnlyParser y z) : OnlyParser x z := by
  obtain ⟨_, _, rfl, h⟩ := h
  obtain ⟨_, _, rfl, k⟩ := k
  exact ⟨_, _, rfl, fun hx => k (h hx)⟩

theorem huntByte_onlyParser (x : LinkState) (b : Byte) : OnlyParser x (x.huntByte b) := by
  unfold LinkState.huntByte
  split
  · exact setPhase_onlyParser x _
  · exact ⟨_, _, rfl, id⟩

theorem takeByte_onlyParser (x : LinkState) (b : Byte) (late : Bool) : OnlyParser x (x.takeByte b late) := by
  unfold LinkState.takeByte
  split
  · exact (abandonForGap_onlyParser x).trans (huntByte_onlyParser _ b)
  · split
    · exact huntByte_onlyParser x b
    · unfold LinkState.lengthByte
      split
      · exact setPhase_onlyParser x _
      · exact ⟨_, _, rfl, fun ⟨check, _, rest⟩ => ⟨check, errorUp_le _, rest⟩⟩
    · unfold LinkState.bodyByte
      split <;> exact setPhase_onlyParser x _
    · unfold LinkState.checkByte
      split
      · exact setPhase_onlyParser x _
      · exact ⟨_, _, rfl, fun ⟨_, rest⟩ => ⟨errorUp_le _, rest⟩⟩
    · exact ⟨_, _, rfl, id⟩

theorem takeCut_onlyParser (x : LinkState) : OnlyParser x x.takeCut := by
  unfold LinkState.takeCut
  split
  · exact setPhase_onlyParser x _
  · exact ⟨_, _, rfl, id⟩

/-- The parser works on a link whose FIFO has lost what it takes. -/
theorem LinkOp.ofParser {x y : LinkState} {parser : Parser} {fifo : List RxItem}
    (h : OnlyParser { x with parser := parser, fifo := fifo } y) (hf : fifoLevel x.fifo ≤ 32 → fifoLevel fifo ≤ 32) :
    LinkOp x y := by
  obtain ⟨parser, errors, rfl, he⟩ := h
  exact .receiver x fifo parser x.lastArrival x.zero errors hf he

/-- What is left of a FIFO has no more bytes. -/
theorem fifoLevel_tail (item : RxItem) (rest : List RxItem) : fifoLevel rest ≤ fifoLevel (item :: rest) :=
  (List.sublist_cons_self item rest).countP_le

theorem fifoLevel_addCut (fifo : List RxItem) : fifoLevel (addCut fifo) = fifoLevel fifo := by
  unfold addCut
  split
  · rfl
  · simp [fifoLevel, RxItem.isByte]

theorem LinkOp.takeNext {x y : LinkState} (h : x.takeNext = some y) : LinkOp x y := by
  unfold LinkState.takeNext at h
  split at h
  · cases h
    exact .ofParser (takeByte_onlyParser _ _ _) id
  · next hf =>
    cases h
    exact .ofParser (takeByte_onlyParser _ _ _) (hf ▸ (fifoLevel_tail _ _).trans)
  · next hf =>
    cases h
    exact .ofParser (takeCut_onlyParser _) (hf ▸ (fifoLevel_tail _ _).trans)
  · cases h

theorem LinkOp.receive (x : LinkState) (clock : Nat) (b : Byte) (stop : Bool) : LinkOp x (x.receive clock b stop) := by
  have cut (h : fifoLevel x.fifo ≤ 32) : fifoLevel (addCut x.fifo) ≤ 32 := by rwa [fifoLevel_addCut]
  unfold LinkState.receive LinkState.receiveByte LinkState.receiveFramingError
  split
  · split
    · next hroom =>
      refine .receiver x _ x.parser _ _ x.errors (fun _ => ?_) id
      simpa [fifoLevel, RxItem.isByte, Config.fifoBytes] using hroom
    · exact .receiver x _ x.parser _ _ _ cut
        fun ⟨check, length, timeout, _, rest⟩ => ⟨check, length, timeout, errorUp_le _, rest⟩
  · exact .receiver x _ x.parser _ _ _ cut
      fun ⟨check, length, timeout, overrun, _, breaks⟩ => ⟨check, length, timeout, overrun, errorUp_le _, breaks⟩

theorem LinkOp.arrived (x : LinkState) (clock : Nat) : LinkOp x (x.arrived clock) :=
  .receiver x x.fifo x.parser _ _ x.errors id id

theorem LinkOp.countBreak (x : LinkState) : LinkOp x x.countBreak :=
  .receiver x x.fifo x.parser _ _ _ id
    fun ⟨check, length, timeout, overrun, framing, _⟩ => ⟨check, length, timeout, overrun, framing, errorUp_le _⟩

theorem LinkOp.setPhase (x : LinkState) (ph : Phase) : LinkOp x (x.setPhase ph) := .ofParser (setPhase_onlyParser x ph) id

/-! ### The law of one link -/

namespace LinkState.Lawful

variable {x : LinkState} (h : x.Lawful)
include h

theorem queues : x.edits.length ≤ 8 ∧ x.replies.length ≤ 4 ∧ fifoLevel x.fifo ≤ 32 := by
  obtain ⟨edits, replies, fifo, -⟩ := h
  exact ⟨edits, replies, fifo⟩

theorem counts : x.refusals ≤ 255 ∧ x.errors.Bounded := by
  obtain ⟨-, -, -, refusals, errors, -⟩ := h
  exact ⟨refusals, errors⟩

/-- No barrier stands but while a query waits (R133, R134). -/
theorem barrier_none (hq : ∀ tag q, x.query ≠ .waiting tag q) : x.barrier = none := by
  obtain ⟨-, -, -, -, -, slot⟩ := h
  cases hx : x.query with
  | empty => simpa [hx] using slot
  | waiting tag q => exact absurd hx (hq tag q)
  | answered body =>
    rw [hx] at slot
    exact slot.1

/-- With a reply place free no RESULT waits for one (R166). -/
theorem not_answered (hroom : x.replyRoom = true) (body : List Byte) : x.query ≠ .answered body := by
  intro hx
  obtain ⟨-, -, -, -, -, slot⟩ := h
  rw [hx] at slot
  have : x.replies.length < 4 := of_decide_eq_true hroom
  omega

/-- Where queue of edits, barrier, slot and replies stand, the law asks for the bounds of the rest alone. -/
theorem of_same {y : LinkState} (he : y.edits = x.edits) (hr : y.replies = x.replies) (hb : y.barrier = x.barrier)
    (hq : y.query = x.query) (hf : fifoLevel y.fifo ≤ 32) (hn : y.refusals ≤ 255) (hc : y.errors.Bounded) : y.Lawful := by
  obtain ⟨edits, replies, -, -, -, slot⟩ := h
  simp only [LinkState.Lawful, he, hr, hb, hq]
  exact ⟨edits, replies, hf, hn, hc, slot⟩

theorem wallReset : x.wallReset.Lawful := by
  obtain ⟨-, replies, fifo, -, errors, slot⟩ := h
  refine ⟨Nat.zero_le _, replies, fifo, Nat.zero_le _, errors, ?_⟩
  unfold LinkState.wallReset
  cases hx : x.query with
  | empty | waiting tag q => rfl
  | answered body =>
    rw [hx] at slot
    exact ⟨rfl, slot.2⟩

theorem enterReply (hroom : x.replyRoom = true) (body : List Byte) : (x.enterReply body).Lawful := by
  have free := h.not_answered hroom
  obtain ⟨edits, -, fifo, refusals, errors, slot⟩ := h
  have room : x.replies.length < 4 := of_decide_eq_true hroom
  refine ⟨edits, by simpa using room, fifo, refusals, errors, ?_⟩
  cases hx : x.query with
  | empty | waiting tag q => simpa [hx] using slot
  | answered body => exact absurd hx (free body)

theorem queueEdit (e : Edit) (hlen : x.edits.length < 8) : Lawful { x with edits := x.edits ++ [e] } := by
  obtain ⟨-, replies, fifo, refusals, errors, slot⟩ := h
  refine ⟨by simpa using hlen, replies, fifo, refusals, errors, ?_⟩
  cases hx : x.query with
  | empty | answered body => simpa [hx] using slot
  | waiting tag q =>
    rw [hx] at slot
    obtain ⟨n, hn, hle⟩ := slot
    exact ⟨n, hn, by simpa using Nat.le_succ_of_le hle⟩

theorem ask (tag : Byte) (q : Query) : Lawful { x with query := .waiting tag q, barrier := some x.edits.length } := by
  obtain ⟨edits, replies, fifo, refusals, errors, -⟩ := h
  exact ⟨edits, replies, fifo, refusals, errors, _, rfl, Nat.le_refl _⟩

theorem takeEdit : x.afterApplication.Lawful := by
  obtain ⟨edits, replies, fifo, refusals, errors, slot⟩ := h
  have shorter : x.edits.tail.length = x.edits.length - 1 := List.length_tail
  refine ⟨?_, replies, fifo, refusals, errors, ?_⟩
  · show x.edits.tail.length ≤ 8
    omega
  · unfold LinkState.afterApplication
    cases hx : x.query with
    | empty | answered body =>
      rw [hx] at slot
      simpa using slot
    | waiting tag q =>
      rw [hx] at slot
      obtain ⟨n, hn, hle⟩ := slot
      exact ⟨n - 1, by simp [hn], by simp only; omega⟩

/-- The RESULT takes a free reply place, or waits in the slot while the queue is full (R134, R166). -/
theorem placeResult (body : List Byte) : (x.placeResult body).Lawful := by
  unfold LinkState.placeResult
  obtain ⟨edits, replies, fifo, refusals, errors, -⟩ := h
  split
  · next hroom =>
    have emptied : Lawful { x with query := .empty, barrier := none } := ⟨edits, replies, fifo, refusals, errors, rfl⟩
    exact emptied.enterReply hroom body
  · next hfull =>
    have full : ¬ x.replies.length < 4 := fun hlt => hfull (decide_eq_true hlt)
    exact ⟨edits, replies, fifo, refusals, errors, rfl, by simp only; omega⟩

theorem endFrame : x.endFrame.Lawful := by
  have shorter : x.replies.tail.length = x.replies.length - 1 := List.length_tail
  obtain ⟨edits, replies, fifo, refusals, errors, slot⟩ := h
  cases hx : x.query with
  | answered body =>
    rw [hx] at slot
    obtain ⟨hb, hfull⟩ := slot
    rw [endFrame_of_answered x body hx]
    have emptied : Lawful { x with replies := x.replies.tail, query := .empty } :=
      ⟨edits, by simp only; omega, fifo, refusals, errors, hb⟩
    exact emptied.enterReply (decide_eq_true (by simp only [Config.replyPlaces]; omega)) body
  | empty | waiting tag q =>
    rw [endFrame_of_not_answered x (by simp [hx])]
    refine ⟨edits, by simp only; omega, fifo, refusals, errors, ?_⟩
    simpa [hx] using slot

end LinkState.Lawful

/-- Every operation of a link keeps its law. -/
theorem LinkOp.lawful {x y : LinkState} (h : LinkOp x y) (hx : x.Lawful) : y.Lawful := by
  obtain ⟨-, -, fifo⟩ := hx.queues
  obtain ⟨refusals, errors⟩ := hx.counts
  cases h with
  | receiver fifo' parser lastArrival zero errors' hf he => exact hx.of_same rfl rfl rfl rfl (hf fifo) refusals (he errors)
  | notices events record n hn => exact hx.of_same rfl rfl rfl rfl fifo (hn refusals) errors
  | sending => exact hx.of_same rfl rfl rfl rfl fifo refusals errors
  | powerOn rate => exact powerOn_link_lawful rate
  | reset => exact (powerOn_link_lawful x.rate).of_same rfl rfl rfl rfl (Nat.zero_le _) (Nat.zero_le _) errors
  | wallReset => exact hx.wallReset
  | reply body hroom => exact hx.enterReply hroom body
  | queueEdit e hlen => exact hx.queueEdit e hlen
  | ask tag q => exact hx.ask tag q
  | takeEdit => exact hx.takeEdit
  | answer body => exact hx.placeResult body
  | endFrame => exact hx.endFrame


/-! ## Both links and the queue of commands -/

/-- `t` has the queue of commands of `s`, and each link of `t` is reached from that of `s` by operations of a link. -/
structure LinksRun (s t : State) : Prop where
  pending : t.pending = s.pending
  links : ∀ l, Relation.ReflTransGen LinkOp (s.link l) (t.link l)

/-- The law speaks of the two links alone. -/
theorem LinkLaw.links {s t : State} (hs : LinkLaw s) (ha : t.linkA = s.linkA) (hb : t.linkB = s.linkB) : LinkLaw t
  | .a => (congrArg LinkState.Lawful ha).mpr (hs .a)
  | .b => (congrArg LinkState.Lawful hb).mpr (hs .b)

/-- The law of the links holds wherever links run from lawful ones. -/
theorem LinkLaw.run {s t : State} (hs : LinkLaw s) (h : LinksRun s t) : LinkLaw t := fun l =>
  (h.links l).rec (motive := fun x _ => x.Lawful) (hs l) fun _ op hx => op.lawful hx

/-- A query that can be answered is WAITING (R134). -/
theorem waiting_of_answerable {x : LinkState} {tag : Byte} {q : Query} (h : x.answerable = some (tag, q)) :
    x.query = .waiting tag q := by
  unfold LinkState.answerable at h
  split at h
  · next hq _ =>
    cases h
    exact hq
  · cases h

namespace LinksRun

variable {s t u : State}

theorem refl (s : State) : LinksRun s s := ⟨rfl, fun _ => .refl⟩

theorem trans (h : LinksRun s t) (k : LinksRun t u) : LinksRun s u :=
  ⟨k.pending.trans h.pending, fun l => (h.links l).trans (k.links l)⟩

/-- What every step of a walk over a list runs, the walk runs. -/
theorem foldl {α : Type} {f : State → α → State} (h : ∀ s a, LinksRun s (f s a)) (xs : List α) (s : State) :
    LinksRun s (xs.foldl f s) :=
  foldl_keeps (P := LinksRun s) (fun t a ht => ht.trans (h t a)) xs (refl s)

/-- One operation on each link. -/
theorem ofOps (hp : t.pending = s.pending) (hl : ∀ l, LinkOp (s.link l) (t.link l)) : LinksRun s t := ⟨hp, fun l => .single (hl l)⟩

/-- Links and queue of commands stand. -/
theorem ofParts (hp : t.pending = s.pending) (ha : t.linkA = s.linkA) (hb : t.linkB = s.linkB) : LinksRun s t :=
  ⟨hp, fun l => by
    cases l
    · rw [State.link_a, State.link_a, ha]
    · rw [State.link_b, State.link_b, hb]⟩

theorem ofEvents (h : OnlyEvents s t) : LinksRun s t :=
  ofOps h.pending fun l => by rw [h.link l]; exact .events _ _

theorem ofInputs {P : InputIx → Prop} (h : OnlyInputs P s t) : LinksRun s t :=
  ofOps h.pending fun l => by rw [h.link l]; exact .events _ _

theorem ofPlans (h : OnlyPlans s t) : LinksRun s t :=
  ofOps h.rest.pending fun l => by rw [h.link l]; exact .events _ _

theorem setLink (s : State) (l : Link) {x : LinkState} (hx : LinkOp (s.link l) x) : LinksRun s (s.setLink l x) :=
  ⟨State.pending_setLink s l x, fun k => by
    rw [State.link_setLink]
    split
    · next e => exact .single (e ▸ hx)
    · exact .refl⟩

theorem modLink (s : State) (l : Link) {g : LinkState → LinkState} (hg : LinkOp (s.link l) (g (s.link l))) :
    LinksRun s (s.modLink l g) := setLink s l hg

theorem modComp (s : State) (scr : ScreenIx) (g : Compositor → Compositor) : LinksRun s (s.modComp scr g) := ofParts rfl rfl rfl

theorem raise (s : State) (l : Link) (k : EventKind) (index : Option Nat) : LinksRun s (s.raise l k index) :=
  ofEvents (OnlyEvents.raise s l k index)

theorem reply (s : State) (l : Link) (body : List Byte) (h : (s.link l).replyRoom = true) : LinksRun s (s.reply l body) :=
  modLink s l (.reply _ body h)

/-- Time passes for both transmitters, and ticks raise events (R97, R128, R156). -/
theorem elapse (n : Nat) (s : State) : LinksRun s (s.elapse n) :=
  ⟨State.pending_elapse n s, fun l => by
    rw [State.link_elapse]
    exact .tail (.single (.sending (s.link l) _)) (.events _ _)⟩

/-! ### Resets and requests (R57, R136, R162 to R170) -/

theorem powerOn (s : State) (rank : Rank) (rateA rateB : LineRate) : LinksRun s (s.powerOn rank rateA rateB) :=
  ofOps rfl fun l => by
    obtain ⟨rate, h⟩ := State.link_afterPowerOn rank rateA rateB s.pending l
    rw [State.powerOn, h]
    exact .powerOn _ _

theorem wallReset (s : State) : LinksRun s s.wallReset :=
  ofOps (wallReset_frame s).pending fun l => by rw [link_wallReset]; exact .wallReset _

theorem linkReset (s : State) (l : Link) : LinksRun s (s.linkReset l) :=
  (modLink s l (.reset _)).trans (ofParts rfl rfl rfl)

section Request
variable {s : State} {l : Link} (hroom : (s.link l).replyRoom = true) (tag : Byte)
include hroom

/-- A change of the link that leaves a reply place free, and the reply. -/
theorem replied {g : LinkState → LinkState} (hg : LinkOp (s.link l) (g (s.link l))) (body : List Byte)
    (hfree : (g (s.link l)).replies = (s.link l).replies) : LinksRun s ((s.modLink l g).reply l body) :=
  (modLink s l hg).trans (reply _ l body (by rw [State.link_modLink_self, LinkState.replyRoom, hfree]; exact hroom))

theorem takeEditRequest (k : EditKind) (f : List Byte) : LinksRun s (s.takeEditRequest l tag k f) := by
  unfold State.takeEditRequest
  split
  · exact reply s l _ hroom
  · split
    · next hlen => exact replied hroom (g := fun x => { x with edits := x.edits ++ [_] }) (.queueEdit _ _ hlen) _ rfl
    · exact reply s l _ hroom

theorem takeQueryRequest (k : QueryKind) (f : List Byte) : LinksRun s (s.takeQueryRequest l tag k f) := by
  unfold State.takeQueryRequest
  split
  · exact reply s l _ hroom
  · split
    · next q _ hempty =>
      exact replied hroom (g := fun x => { x with query := .waiting tag q, barrier := some x.edits.length })
        (.ask _ _ _ hempty) _ rfl
    · exact reply s l _ hroom

theorem takeSetEvents (f : List Byte) : LinksRun s (s.takeSetEvents l tag f) := by
  unfold State.takeSetEvents
  split
  · next e _ => exact replied hroom (g := fun x => { x with events := e }) (.events _ _) _ rfl
  · exact reply s l _ hroom

theorem takeTakeEvents : LinksRun s (s.takeTakeEvents l tag) :=
  replied hroom (g := fun x => { x with events := x.events.clearLatches, record := none, refusals := 0 })
    (.notices _ _ _ _ fun _ => Nat.zero_le _) _ rfl

theorem takeWallReset : LinksRun s (s.takeWallReset l tag) := by
  unfold State.takeWallReset
  split
  · exact reply s l _ hroom
  · exact (wallReset s).trans (reply _ l _ (by rw [link_wallReset]; exact hroom))

omit hroom in
theorem takeLinkReset : LinksRun s (s.takeLinkReset l tag) :=
  (linkReset s l).trans (reply _ l _ (by cases l <;> rfl))

theorem takeFrame (kind : Byte) (f : List Byte) : LinksRun s (s.takeFrame l kind tag f) := by
  unfold State.takeFrame
  split
  · next k _ =>
    unfold State.takeNamed
    split
    · cases k with
      | edit e => exact takeEditRequest hroom tag e f
      | query q => exact takeQueryRequest hroom tag q f
      | identify => exact reply s l _ hroom
      | takeEvents => exact takeTakeEvents hroom tag
      | setEvents => exact takeSetEvents hroom tag f
      | wallReset => exact takeWallReset hroom tag
      | linkReset => exact takeLinkReset tag
    · exact reply s l _ hroom
  · exact reply s l _ hroom

theorem takeBody (body : List Byte) : LinksRun s (s.takeBody l body) := by
  unfold State.takeBody
  split
  · exact takeFrame hroom _ _ _
  · exact refl s
  · exact refl s

end Request

theorem complete (s : State) (l : Link) (kind tag : Byte) (f : List Byte) : LinksRun s (s.complete l kind tag f) := by
  cases hq : (s.link l).quiet with
  | false =>
    rw [complete_busy s l kind tag f hq]
    exact refl s
  | true =>
    cases hr : (s.link l).replyRoom with
    | true =>
      rw [complete_ready s l kind tag f hq hr]
      exact (setLink s l (.arrived _ _)).trans (takeFrame (by rw [State.link_setLink_self]; exact hr) tag kind f)
    | false =>
      rw [complete_full s l kind tag f hq hr]
      exact setLink s l (.receiver _ _ _ _ _ _ id id)

/-! ### The receive lines (R156 to R162) -/

theorem parseOnce {l : Link} (h : s.parseOnce l = some t) : LinksRun s t := by
  have next (h : (s.link l).takeNext.map (s.setLink l) = some t) : LinksRun s t := by
    obtain ⟨x, hx, rfl⟩ := Option.map_eq_some_iff.mp h
    exact setLink s l (.takeNext hx)
  unfold State.parseOnce at h
  simp only at h
  split at h
  · split at h
    · next hcan =>
      cases h
      refine (setLink s l (.setPhase _ .hunt)).trans (takeBody ?_ _)
      rw [State.link_setLink_self]
      exact (Bool.and_eq_true_iff.mp hcan).1
    · cases h
  all_goals exact next h

theorem parseFor (l : Link) (n : Nat) (s : State) : LinksRun s (State.parseFor l n s) := by
  induction n generalizing s with
  | zero => exact refl s
  | succ n ih =>
    unfold State.parseFor
    split
    · next h => exact (parseOnce h).trans (ih _)
    · exact refl s

theorem settleGap (s : State) (l : Link) : LinksRun s (s.settleGap l) := by
  unfold State.settleGap
  simp only
  split
  · exact setLink s l (.ofParser (abandonForGap_onlyParser _) id)
  · exact refl s

theorem parse (s : State) (l : Link) : LinksRun s (s.parse l) := (parseFor l _ s).trans (settleGap _ l)

theorem arrive (s : State) (l : Link) (b : Byte) (stop : Bool) : LinksRun s (s.arrive l b stop) :=
  (modLink s l (.receive _ _ _ _)).trans (parse _ l)

theorem holdZero (s : State) (l : Link) : LinksRun s (s.holdZero l) := by
  unfold State.holdZero
  split
  · exact refl s
  · exact (elapse _ s).trans (arrive _ l 0 false)

theorem breakLine (s : State) (l : Link) : LinksRun s (s.breakLine l) :=
  (modLink s l (.countBreak _)).trans (linkReset _ l)

theorem endTransmission (s : State) (l : Link) : LinksRun s (s.endTransmission l) :=
  (modLink s l (.endFrame _)).trans (parse _ l)

/-! ### Screens (R59 to R61, R78) -/

theorem startFrame (s : State) (scr : ScreenIx) (leadIn : Bool) : LinksRun s (s.startFrame scr leadIn) := by
  unfold State.startFrame
  exact (modComp s scr _).trans (ofInputs (State.startLoopedFrames_frame _ scr))

theorem wake (s : State) (scr : ScreenIx) : LinksRun s (s.wake scr) := by
  unfold State.wake
  exact (modComp s scr _).trans (startFrame _ scr true)

theorem commit (s : State) (scr : ScreenIx) : LinksRun s (s.commit scr) := by
  have copied : LinksRun s (s.copyStage scr) := by
    unfold State.copyStage
    split
    · exact ofParts rfl rfl rfl
    · exact refl s
  have planned := copied.trans (ofPlans (State.planStage_onlyPlans scr _ (s.comps.get scr)))
  unfold State.commit
  simp only
  split
  · have released := planned.trans
      (ofPlans ((State.leaveAll_onlyPlans scr _).trans (State.releasePasses_onlyPlans scr _)))
    have given := released.trans (ofPlans ((OnlyPlans.foldl (State.standbyRelease_onlyPlans scr) windowsInOrder _).trans
      (OnlyPlans.foldl (fun t k => State.giveUpSlot_onlyPlans t (s.comps.get scr) k) windowsInOrder _)))
    exact given.trans (ofParts rfl rfl rfl)
  · have staged := planned.trans (ofPlans (((State.releaseStage_onlyPlans scr _ (s.comps.get scr)).trans
      (State.requestStage_onlyPlans scr _)).trans (State.slotStage_onlyPlans scr _ (s.comps.get scr))))
    exact staged.trans (startFrame _ scr false)

theorem boundary (s : State) (scr : ScreenIx) : LinksRun s (((s.elapse (s.toBoundary scr)).endLoopedFrames scr).commit scr) :=
  ((elapse _ s).trans (ofInputs (State.endLoopedFrames_frame _ scr))).trans (commit _ scr)

/-! ### Applications, answers and holds (R117 to R134) -/

theorem takeEdit (s : State) (l : Link) : LinksRun s (s.takeEdit l) :=
  (modLink s l (.takeEdit _)).trans (ofParts rfl rfl rfl)

theorem refuse (s : State) (l : Link) (kind : EditKind) (screens : List ScreenIx) (reason : RefusalReason) :
    LinksRun s (s.refuse l kind screens reason) := by
  cases screens with
  | nil => exact refl s
  | cons scr rest => exact (modLink s l (.notices _ _ _ _ fun _ => Nat.min_le_left _ _)).trans (raise _ l _ _)

theorem writeStaged (s : State) (scr : ScreenIx) (r : ScreenRecord) : LinksRun s (s.writeStaged scr r) := by
  have written : LinksRun s (s.setStaged scr r) := ofParts rfl rfl rfl
  unfold State.writeStaged
  simp only
  split
  · exact written.trans (wake _ scr)
  · exact written

theorem screenEdit (s : State) (l : Link) (kind : EditKind) (hold : Bool) (scr : ScreenIx)
    (write : ScreenRecord → ScreenRecord) : LinksRun s (s.screenEdit l kind hold scr write) := by
  unfold State.screenEdit
  split
  · exact refuse s l kind _ _
  · exact (writeStaged s scr _).trans (ofParts rfl rfl rfl)

theorem groupEdit (s : State) (l : Link) (screens : List ScreenIx) (c : GroupChange) : LinksRun s (s.groupEdit l screens c) :=
  (foldl (fun t k => writeStaged t k _) _ s).trans (refuse _ l _ _ _)

theorem pinEdit (s : State) (l : Link) (kind : EditKind) (scr : ScreenIx) (pin : Pin) : LinksRun s (s.pinEdit l kind scr pin) := by
  have set : LinksRun s (s.setPin scr pin) := ofParts rfl rfl rfl
  unfold State.pinEdit
  split
  · split
    · exact set.trans (raise _ _ _ _)
    · exact refuse s l kind _ _
  · exact set

theorem unpinScreen (s : State) (l : Link) (scr : ScreenIx) : LinksRun s (s.unpinScreen l scr) := by
  unfold State.unpinScreen
  split
  · exact refl s
  · exact pinEdit s l _ scr _

theorem snapshots (s : State) (mode : SnapshotMode) (p : InputIx → Bool) : LinksRun s (s.snapshots mode p) :=
  (ofParts rfl rfl rfl : LinksRun s { s with fronts := (s.snapshots mode p).fronts }).trans
    (ofEvents (State.snapshots_frame s mode p))

theorem applyEdit (s : State) (l : Link) (e : Edit) : LinksRun s (s.applyEdit l e) := by
  refine (takeEdit s l).trans ?_
  cases e with
  | setMain hold scr | setInset hold scr | clearInset hold scr | clearScreen hold scr | swap hold scr | setScreen hold scr =>
    exact screenEdit _ l _ hold scr _
  | group base limit invert c => exact groupEdit _ l _ c
  | pin scr minutes => exact pinEdit _ l _ scr _
  | unpin scr => exact unpinScreen _ l scr
  | setInput i x => exact ofInputs (State.applyInputSettings_frame i _ x)
  | setZone k r d => exact ofParts rfl rfl rfl
  | snapshotCounters inputs => exact snapshots _ _ _

theorem answer (s : State) (l : Link) : LinksRun s (s.answer l) := by
  unfold State.answer
  split
  · next tag q h => exact modLink s l (.answer _ _ tag q (waiting_of_answerable h))
  · exact refl s

theorem expireHold (s : State) (scr : ScreenIx) : LinksRun s (s.expireHold scr) := by
  unfold State.expireHold
  split
  · exact (ofParts rfl rfl rfl : LinksRun s (s.setHold scr .clear)).trans (raise _ _ _ _)
  · exact refl s

/-! ### Inputs and audio (R85, R86, R142 to R148) -/

theorem acquisitionExpiry (s : State) (i : InputIx) : LinksRun s (s.acquisitionExpiry i) := by
  unfold State.acquisitionExpiry
  simp only
  split
  · exact ofInputs (State.loseInput_frame i s)
  · exact refl s

theorem missExpiry (s : State) (i : InputIx) : LinksRun s (s.missExpiry i) := by
  unfold State.missExpiry
  simp only
  split
  · split
    · exact ofInputs ((State.abandonSlot_frame i s).trans (State.loseInput_frame i _))
    · exact ofInputs (State.setFront_frame i s _)
  · exact refl s

theorem judgeBlock (s : State) : LinksRun s s.judgeBlock := by
  have judged : LinksRun s (s.setDetector s.detector.judge) := ofParts rfl rfl rfl
  unfold State.judgeBlock
  split
  · simp only
    split
    · exact judged
    · exact judged.trans (ofEvents (OnlyEvents.raiseAnnounce _ _))
  · exact refl s

theorem sampleZone (an : Sample) (s : State) (k : ZoneIx) : LinksRun s (s.sampleZone an k) :=
  (ofParts rfl rfl rfl : LinksRun s (s.setZone k (s.sampled an k))).trans (ofEvents (sampleZone_onlyEvents an s k))

theorem samplePeriod (an : Sample) (s : State) : LinksRun s (s.samplePeriod an) := by
  have zones := (judgeBlock s).trans (foldl (sampleZone an) zonesInOrder _)
  have popped (t : State) : LinksRun t t.popAudio := ofParts rfl rfl rfl
  have sampled (t : State) (d : Detector) : LinksRun t (t.setDetector d) := ofParts rfl rfl rfl
  exact (zones.trans (popped _)).trans (sampled _ _)

end LinksRun

/-! ## Every command -/

/-- The outcome is a next state, and that state has the property. -/
def Answers (P : State → Prop) (o : Host.Outcome State Fault Refusal) : Prop := ∃ t, o = .next t ∧ P t

theorem Answers.next {P : State → Prop} {t : State} (h : P t) : Answers P (.next t) := ⟨t, rfl, h⟩

theorem Answers.ite {P : State → Prop} {c : Prop} [Decidable c] {o p : Host.Outcome State Fault Refusal} (ho : Answers P o)
    (hp : Answers P p) : Answers P (if c then o else p) := by
  split
  · exact ho
  · exact hp

theorem Answers.leads {P Q : State → Prop} {o : Host.Outcome State Fault Refusal} (h : Answers P o) (hpq : ∀ t, P t → Q t) :
    Leads Q o := by
  obtain ⟨t, rfl, ht⟩ := h
  exact .next (hpq t ht)

theorem application_answers {c : Instr} (hc : c ∈ applications) (s : State) : Answers (LinksRun s) (exec c s) := by
  rcases exec_application hc s with ⟨l, e, -, h⟩ | h
  · exact ⟨_, h, .applyEdit s l e⟩
  · exact ⟨_, h, .refl s⟩

theorem activeLine_answers (i : InputIx) (pixels : List Colour) (s : State) :
    Answers (LinksRun s) (execActiveLine i pixels s) := by
  unfold execActiveLine
  split
  · exact .next (.ofInputs (State.activeLine_frame i s pixels))
  · exact .ite (.next (.ofInputs (State.activeLine_frame i s _))) (.next (.refl s))

theorem frameEnd_answers (i : InputIx) (audio : Option (List Stereo)) (s : State) :
    Answers (LinksRun s) (execFrameEnd i audio s) := by
  unfold execFrameEnd
  split
  · exact .next (.ofInputs (State.frameEnd_frame i s audio))
  · exact .ite (.next (.refl s)) (.next (.ofInputs (State.frameEnd_frame i s none)))

/-- Every command answers a next state, in which the links have run and the queue of commands stands. -/
theorem exec_answers (c : Instr) (s : State) : Answers (LinksRun s) (exec c s) := by
  have idle : Answers (LinksRun s) (.next s) := .next (.refl s)
  have later {t : State} (n : Nat) (h : LinksRun (s.elapse n) t) : Answers (LinksRun s) (.next t) :=
    .next ((LinksRun.elapse n s).trans h)
  cases c with
  | powerOn rank rateA rateB => exact .next (.powerOn s rank rateA rateB)
  | setMain l tag f | setInset l tag f | clearInset l tag f | clearScreen l tag f | swap l tag f | setScreen l tag f
  | group l tag f | pin l tag f | unpin l tag f | setInput l tag f | setZone l tag f | snapshotCounters l tag f
  | readScreen l tag f | readWindow l tag f | readInput l tag f | readZone l tag f | readPool l tag f
  | readCounters l tag f | readLink l tag f | identify l tag f | takeEvents l tag f | setEvents l tag f
  | wallReset l tag f | linkReset l tag f => exact .next (.complete s l _ tag f)
  | unknownKind l kind tag f => exact .next (.complete s l kind tag f)
  | applySetMain | applySetInset | applyClearInset | applyClearScreen | applySwap | applySetScreen | applyGroup | applyPin
  | applyUnpin | applySetInput | applySetZone | applySnapshotCounters =>
    exact application_answers (by simp [applications]) s
  | answerEvent l => exact .next (.answer s l)
  | oneSecondTick => exact later _ (.refl _)
  | pinLapsed scr => exact .ite idle (later _ (.refl _))
  | holdExpired scr => exact .ite idle (later _ (.expireHold _ scr))
  | arrival l wait b stop => exact later _ (.arrive _ l b stop)
  | interByteTimeout l => exact .ite (later _ (.settleGap _ l)) idle
  | lineBreak l => exact .next (((LinksRun.holdZero s l).trans (.elapse _ _)).trans (.breakLine _ l))
  | transmissionEnd l => exact .ite idle (later _ (.endTransmission _ l))
  | frameStart i wait => exact .ite (later _ (.ofInputs (State.frameStart_frame i _))) (later _ (.refl _))
  | activeLine i pixels => exact activeLine_answers i pixels s
  | frameEnd i audio => exact frameEnd_answers i audio s
  | acquisitionTimerExpiry i => exact .ite idle (later _ (.acquisitionExpiry _ i))
  | missIntervalExpiry i => exact .ite idle (later _ (.missExpiry _ i))
  | slateHoldExpiry i => exact .ite (later _ (.ofInputs (State.modFront_frame i _ _))) idle
  | samplePeriod an => exact .next (.samplePeriod an s)
  | blockJudgement => exact .next (.judgeBlock s)
  | boundary scr => exact .ite idle (.next (.boundary s scr))

/-- Settles O2: every command's outcome is a next state, in whose run the queue of commands has no part. -/
theorem everyCommandRunsAndKeepsTheQueue : Obligations.EveryCommandRunsAndKeepsTheQueue := by
  intro c s
  obtain ⟨t, ht, run⟩ := exec_answers c s
  exact ⟨t, ht, run.pending⟩

/-- Settles O55: every command and the passing of time run the links by their operations, each of which keeps the law of its link. -/
theorem everyStepKeepsTheLinkLaw : Obligations.EveryStepKeepsTheLinkLaw := fun _ t hs h =>
  step_keeps (P := LinkLaw) (fun _ _ hs => hs.links rfl rfl) (fun c s hs => (exec_answers c s).leads fun _ => hs.run)
    (fun n s hs => hs.run (.elapse n s)) hs t h

end Sys2Proof.Machine
end

section
/-! PROOF. Requests refused, TAKE_EVENTS and LINK_RESET on a ready link, and the lengths of Table 11-1 (R115, R125, R133, R136, R163 to R165, R170, R175, R176, R178). -/

namespace Sys2Proof.Machine

/-! ## The frame that has just come -/

theorem link_heard (s : State) (l : Link) : (s.heard l).link l = (s.link l).arrived s.clock := State.link_setLink_self s l _

/-- An immediate reply to a frame whose check byte has just arrived (R162, R163). -/
theorem reply_heard (s : State) (l : Link) (body : List Byte) :
    (s.heard l).reply l body = s.setLink l ((s.link l).replied s.clock body) := by
  rw [reply_eq, State.link_setLink_self, State.setLink_setLink]
  rfl

/-- A refused frame changes nothing but its arrival and the reply queue (R163). -/
theorem nak_heard (s : State) (l : Link) (tag kind : Byte) (reason : NakReason) :
    (s.heard l).nak l tag kind reason = s.setLink l ((s.link l).replied s.clock [0x81, tag, kind, reason.code]) :=
  reply_heard s l (nakBody tag kind reason)

section Ready
variable {s : State} {l : Link} (hs : s.ready l) (tag : Byte) {f : List Byte}
include hs

/-- A request of a bad length gets BAD_LENGTH (R163, R178). -/
theorem exec_request_badLength (k : RequestKind) (hlen : k.lengthOk f = false) :
    exec (requestCommand k l tag f) s = .next ((s.heard l).nak l tag k.code .badLength) := by
  obtain ⟨hquiet, hroom⟩ := hs
  rw [exec_requestCommand, complete_ready s l _ tag f hquiet (decide_eq_true hroom), takeFrame_badLength _ _ _ _ _ hlen]

theorem exec_edit_ready (k : EditKind) (hlen : k.lengthOk f = true) :
    exec (editCommand k l tag f) s = .next ((s.heard l).takeEditRequest l tag k f) :=
  exec_request_ready (.edit k) tag hs hlen

theorem exec_query_ready (k : QueryKind) (hlen : k.lengthOk f = true) :
    exec (queryCommand k l tag f) s = .next ((s.heard l).takeQueryRequest l tag k f) :=
  exec_request_ready (.query k) tag hs hlen

end Ready

/-! ## The paths that refuse (R115, R133, R136) -/

section Refused
variable {s : State} {l : Link} (tag : Byte) {f : List Byte}

theorem takeEditRequest_badField {k : EditKind} {r : NakReason} (h : readEdit k f = .error r) :
    s.takeEditRequest l tag k f = s.nak l tag k.code r := by
  simp only [State.takeEditRequest, h]

theorem takeEditRequest_full {k : EditKind} {e : Edit} (h : readEdit k f = .ok e) (hfull : 8 ≤ (s.link l).edits.length) :
    s.takeEditRequest l tag k f = s.nak l tag k.code .queueFull := by
  simp only [State.takeEditRequest, h]
  exact if_neg (Nat.not_lt.mpr hfull)

theorem takeQueryRequest_badIndex {k : QueryKind} (h : readQuery k f = none) :
    s.takeQueryRequest l tag k f = s.nak l tag k.code .badIndex := by
  simp only [State.takeQueryRequest, h]

theorem takeQueryRequest_busy {k : QueryKind} {q : Query} (h : readQuery k f = some q) (hbusy : (s.link l).query ≠ .empty) :
    s.takeQueryRequest l tag k f = s.nak l tag k.code .queryBusy := by
  simp only [State.takeQueryRequest, h]
  exact if_neg hbusy

theorem takeWallReset_junior (h : senior s.rank l.other = true) :
    s.takeWallReset l tag = s.nak l tag RequestKind.wallReset.code .notSenior := if_pos h

end Refused

/-! ## Lengths (Table 11-1) -/

/-- A byte that the fields hold, and its value. -/
theorem getElem?_eq_some_u8 {f : List Byte} {n : Nat} {b : Byte} (h : f[n]? = some b) : n < f.length ∧ u8 f n = b.toNat := by
  refine ⟨(List.getElem?_eq_some_iff.mp h).1, ?_⟩
  rw [u8, List.getD_eq_getElem?_getD, h, Option.getD_some]

/-- SET_ZONE has 19 bytes and 3 for each of the contributions that offset 18 counts. -/
theorem setZone_lengthOk_iff (f : List Byte) :
    EditKind.setZone.lengthOk f = true ↔ ∃ n : Byte, f[16]? = some n ∧ n.toNat ≤ 4 ∧ f.length + 2 = 19 + 3 * n.toNat := by
  simp only [EditKind.lengthOk, Bool.and_eq_true, decide_eq_true_eq]
  constructor
  · rintro ⟨⟨hmin, hcount⟩, hlen⟩
    have held : f[16]? = some f[16] := List.getElem?_eq_getElem (by omega)
    have value := (getElem?_eq_some_u8 held).2
    exact ⟨f[16], held, by omega, by omega⟩
  · rintro ⟨n, held, hcount, hlen⟩
    obtain ⟨hmin, value⟩ := getElem?_eq_some_u8 held
    omega

/-- Settles O5: the lengths kind by kind, and each refusal on its path. -/
theorem refusedRequestsChangeNothingElse : Obligations.RefusedRequestsChangeNothingElse := by
  refine ⟨fun k f => ?lengths, fun l tag f s hs => ?refusals⟩
  case lengths =>
    cases k with
    | edit k =>
      cases k with
      | setZone => exact setZone_lengthOk_iff f
      | _ => simp [RequestKind.lengthOk, EditKind.lengthOk]
    | query k => cases k <;> simp [RequestKind.lengthOk, QueryKind.lengthOk]
    | _ => simp [RequestKind.lengthOk]
  case refusals =>
    have edits : ((s.heard l).link l).edits = (s.link l).edits := by rw [link_heard]; rfl
    have query : ((s.heard l).link l).query = (s.link l).query := by rw [link_heard]; rfl
    refine ⟨fun k hlen => ?_, fun k r hlen hr => ?_, fun k e hlen he hfull => ?_, fun k hlen hq => ?_,
      fun k q hlen hq hbusy => ?_, fun hsenior hf => ?_⟩
    · rw [exec_request_badLength hs tag k hlen, nak_heard]
      rfl
    · rw [exec_edit_ready hs tag k hlen, takeEditRequest_badField tag hr, nak_heard]
    · rw [exec_edit_ready hs tag k hlen, takeEditRequest_full tag he (edits ▸ hfull), nak_heard]
      rfl
    · rw [exec_query_ready hs tag k hlen, takeQueryRequest_badIndex tag hq, nak_heard]
      rfl
    · rw [exec_query_ready hs tag k hlen, takeQueryRequest_busy tag hq (query ▸ hbusy), nak_heard]
      rfl
    · subst hf
      have run := exec_request_ready .wallReset tag hs (f := []) rfl
      rw [State.takeKind, takeWallReset_junior tag (by rw [State.rank_setLink]; exact hsenior), nak_heard] at run
      exact run

/-! ## TAKE_EVENTS and LINK_RESET -/

/-- Settles O8: the reply and the clearing on a link whose frame has just arrived, and the attention line of cleared latches. -/
theorem takeEventsReturnsAndClears : Obligations.TakeEventsReturnsAndClears := by
  intro l tag s hs
  refine ⟨_, exec_request_ready .takeEvents tag hs (f := []) rfl, ?_, ?_⟩
  · simp only [State.takeKind, State.takeTakeEvents, reply_eq, State.modLink_eq, State.link_setLink_self, State.setLink_setLink]
    rfl
  · simp only [State.takeKind, State.takeTakeEvents, State.attention, reply_eq, State.link_setLink_self, State.link_modLink_self,
      events_enterReply]
    exact attention_clearLatches _

/-- Settles O11: the reset of a link whose frame has just arrived, and RESET_DONE in its emptied queue. -/
theorem linkResetClearsItsLink : Obligations.LinkResetClearsItsLink := by
  intro l tag s hs
  have run := exec_request_ready .linkReset tag hs (f := []) rfl
  refine run.trans (congrArg Host.Outcome.next ?_)
  cases l <;> rfl

end Sys2Proof.Machine
end

section
/-! PROOF. Applications: the link alternation chooses, the gate, the layout edits, pins, SET_ZONE, and the answer to a query (R117 to R120, R122 to R127, R132 to R134, R151, R165, R166). -/

namespace Sys2Proof.Machine

/-! ## The choice of the link (R117, R133) -/

section Chosen
variable {s : State} {l : Link} {e : Edit}

theorem chosen_of_only (h : (s.link l).eligible = some e) (hother : (s.link l.other).eligible = none) :
    s.chosen = some (l, e) := by
  cases l
  · have ha : s.linkA.eligible = some e := h
    have hb : s.linkB.eligible = none := hother
    simp only [State.chosen, ha, hb]
  · have ha : s.linkA.eligible = none := hother
    have hb : s.linkB.eligible = some e := h
    simp only [State.chosen, ha, hb]

theorem chosen_of_both {e' : Edit} (h : (s.link l).eligible = some e) (hother : (s.link l.other).eligible = some e')
    (hm : s.marker = l.other) : s.chosen = some (l, e) := by
  cases l
  · have ha : s.linkA.eligible = some e := h
    have hb : s.linkB.eligible = some e' := hother
    simp only [State.chosen, ha, hb, hm, Link.other]
  · have ha : s.linkA.eligible = some e' := hother
    have hb : s.linkB.eligible = some e := h
    simp only [State.chosen, ha, hb, hm, Link.other]

theorem chosen_of_neither (h : ∀ k, (s.link k).eligible = none) : s.chosen = none := by
  have ha : s.linkA.eligible = none := h .a
  have hb : s.linkB.eligible = none := h .b
  simp only [State.chosen, ha, hb]

/-- The application of the chosen edit's kind applies that edit. -/
theorem exec_apply (h : s.chosen = some (l, e)) : exec (applyCommand e.kind) s = .next (s.applyEdit l e) := by
  cases e <;>
    simp only [Edit.kind, applyCommand, exec, execApplySetMain, execApplySetInset, execApplyClearInset, execApplyClearScreen,
      execApplySwap, execApplySetScreen, execApplyGroup, execApplyPin, execApplyUnpin, execApplySetInput, execApplySetZone,
      execApplySnapshotCounters, h, State.applyEdit]

end Chosen

/-- Settles O16, by which links have an eligible head edit. -/
theorem alternationChoosesTheLink : Obligations.AlternationChoosesTheLink := fun _ =>
  ⟨fun _ _ h hother => chosen_of_only h hother, fun _ _ _ h hother hm => chosen_of_both h hother hm, chosen_of_neither⟩

/-! ## The gate and refusals (R122, R125) -/

section Gate
variable {s : State} {l : Link} {scr : ScreenIx} {hold : Bool}

theorem gate_pinned (hp : s.PinStops l scr) : s.gate l scr hold = some .pinned := if_pos ((pinStops_iff s l scr).mpr hp)

theorem gate_held (hp : ¬ s.PinStops l scr) (hh : s.HoldStops l scr hold) : s.gate l scr hold = some .held := by
  have pin : ¬ s.pinStops l scr = true := mt (pinStops_iff s l scr).mp hp
  have held : (hold && (s.holds.get scr).holder == some l.other) = true := by simpa [State.HoldStops] using hh
  rw [State.gate, if_neg pin, if_pos held]

/-- The taking of an edit does not change what the gate says. -/
theorem gate_afterTaking (s : State) (l : Link) (scr : ScreenIx) (hold : Bool) :
    (s.afterTaking l).gate l scr hold = s.gate l scr hold := gate_takeEdit s l l scr hold

/-- The refusal of the edit just taken, on one screen. -/
theorem refuse_afterTaking (s : State) (l : Link) (kind : EditKind) (scr : ScreenIx) (reason : RefusalReason) :
    (s.afterTaking l).refuse l kind [scr] reason = s.afterRefusedEdit l kind scr reason := by
  have count (n : Nat) : min 255 (n + 1) = if n < 255 then n + 1 else 255 := by split <;> omega
  rw [refuse_frame, link_refuse_cons, link_afterTaking, List.length_nil, Nat.zero_add, count]
  cases l <;> rfl

/-- A screen edit goes through the gate of its screen with its HOLD flag. -/
theorem applyEdit_of_screenPart {e : Edit} (s : State) (l : Link) (h : e.screenPart = some (hold, scr)) :
    ∃ write, s.applyEdit l e = (s.afterTaking l).screenEdit l e.kind hold scr write := by
  cases e <;> cases h <;> exact ⟨_, rfl⟩

/-- A chosen screen edit that the gate refuses is taken and refused. -/
theorem exec_apply_refused {e : Edit} {reason : RefusalReason} (hchosen : s.chosen = some (l, e))
    (hpart : e.screenPart = some (hold, scr)) (hgate : s.gate l scr hold = some reason) :
    exec (applyCommand e.kind) s = .next (s.afterRefusedEdit l e.kind scr reason) := by
  obtain ⟨write, happly⟩ := applyEdit_of_screenPart s l hpart
  rw [exec_apply hchosen, happly, screenEdit_refused _ l _ hold scr write reason ((gate_afterTaking s l scr hold).trans hgate),
    refuse_afterTaking]

end Gate

/-- Settles O19: the gate's two reasons, and the refusal of the edit taken. -/
theorem gateRefusesPinnedAndHeldScreens : Obligations.GateRefusesPinnedAndHeldScreens := fun _ _ _ _ _ hchosen hpart =>
  ⟨fun hp => exec_apply_refused hchosen hpart (gate_pinned hp),
    fun hp hh => exec_apply_refused hchosen hpart (gate_held hp hh)⟩

/-! ## The layout edits (R119, R120) -/

/-- A screen edit that keeps the standby flag, admitted: the record and the hold are written, and nothing wakes. -/
theorem screenEdit_keeps_standby {s : State} {l : Link} (kind : EditKind) {hold : Bool} {scr : ScreenIx}
    {write : ScreenRecord → ScreenRecord} (hgate : s.gate l scr hold = none)
    (hw : (write (s.staged.get scr)).settings.standby = (s.staged.get scr).settings.standby) :
    (s.afterTaking l).screenEdit l kind hold scr write = s.afterScreenEdit l hold scr (write (s.staged.get scr)) := by
  rw [screenEdit_admitted kind write ((gate_afterTaking s l scr hold).trans hgate), staged_afterTaking, holds_afterTaking,
    writeStaged_same_standby _ _ _ (by rw [staged_afterTaking]; exact hw)]
  simp only [State.afterScreenEdit, State.setStaged, State.setHold, staged_afterTaking, holds_afterTaking]
  rfl

/-- CLEAR_SCREEN clears each inset's source. -/
theorem clearAll_eq (r : ScreenRecord) :
    r.clearAll =
      { r with
        main := { r.main with source := none }
        insets := Table.tab 3 fun k => { r.insets.get k with source := none } } := by
  have insets : r.insets.map (fun q => { q with source := none }) =
      Table.tab 3 fun k => { r.insets.get k with source := none } :=
    Table.ext_get fun k => by rw [Table.get_map, Table.get_tab]
  rw [ScreenRecord.clearAll, insets]

/-- Settles O17: each layout edit keeps the standby flag, so past the gate it writes its record and the hold. -/
theorem layoutEditsWriteTheirScreen : Obligations.LayoutEditsWriteTheirScreen := by
  intro s l hold scr hp hh
  have written (e : Edit) {write : ScreenRecord → ScreenRecord} (hchosen : s.chosen = some (l, e))
      (happly : s.applyEdit l e = (s.afterTaking l).screenEdit l e.kind hold scr write)
      (hw : (write (s.staged.get scr)).settings.standby = (s.staged.get scr).settings.standby) :
      exec (applyCommand e.kind) s = .next (s.afterScreenEdit l hold scr (write (s.staged.get scr))) := by
    rw [exec_apply hchosen, happly, screenEdit_keeps_standby _ (gate_admits hp hh) hw]
  refine ⟨fun req h => written _ h rfl rfl, fun k req h => written _ h rfl rfl, fun k h => written _ h rfl rfl, fun h => ?_,
    fun k h => written _ h rfl rfl⟩
  rw [← clearAll_eq]
  exact written _ h rfl rfl

/-! ## Pins (R126, R127) -/

section Pins
variable {s : State} {l : Link} {scr : ScreenIx} (kind : EditKind) (pin : Pin)

/-- The link whose edit was taken owns the pin, or none does: the pin is set. -/
theorem pinEdit_afterTaking_own (h : (s.pins.get scr).owner ≠ some l.other) :
    (s.afterTaking l).pinEdit l kind scr pin = { s.afterTaking l with pins := s.pins.set scr pin } := by
  rw [State.pinEdit, pins_afterTaking, if_neg h, State.setPin, pins_afterTaking]

/-- A senior link sets a pin that the other link owns, which is told with PIN_TAKEN. -/
theorem pinEdit_afterTaking_senior (h : (s.pins.get scr).owner = some l.other) (hrank : senior s.rank l = true) :
    (s.afterTaking l).pinEdit l kind scr pin =
      State.setLink { s.afterTaking l with pins := s.pins.set scr pin } l.other
        { s.link l.other with events := (s.link l.other).events.latch .pinTaken (some scr.val) } := by
  rw [State.pinEdit, pins_afterTaking, rank_afterTaking, if_pos h, if_pos hrank]
  cases l <;> rfl

/-- A link that is not senior is refused a pin that the other link owns. -/
theorem pinEdit_afterTaking_refused (h : (s.pins.get scr).owner = some l.other) (hrank : senior s.rank l = false) :
    (s.afterTaking l).pinEdit l kind scr pin = s.afterRefusedEdit l kind scr .pinned := by
  rw [State.pinEdit, pins_afterTaking, rank_afterTaking, if_pos h, if_neg (by simp [hrank]), refuse_afterTaking]

end Pins

/-- No link owns the pin, or this one does. -/
theorem owner_not_other {owner : Option Link} {l : Link} (h : owner = none ∨ owner = some l) : owner ≠ some l.other := by
  rcases h with rfl | rfl
  · nofun
  · exact fun e => other_ne l (Option.some.inj e)

/-- Settles O20: the clamp of the minutes at acceptance, and then the pin by its owner and the rank. -/
theorem pinByOwnerAndRank : Obligations.PinByOwnerAndRank := by
  refine ⟨fun number minutes hlo hhi => ?accepted, fun s l scr minutes hchosen => ?applied⟩
  case accepted =>
    have named : index 16 number.toNat = some ⟨number.toNat - 1, by omega⟩ := index_eq_some.mpr (by simp only; omega)
    have read : readEdit .pin [number, minutes] = .ok (.pin ⟨number.toNat - 1, by omega⟩ (clampNat 0 240 minutes.toNat)) := by
      simp only [readEdit, readPin, u8, List.getD_cons_zero, List.getD_cons_succ, named]
    refine ⟨⟨number.toNat - 1, by omega⟩, by simp only; omega, ?_⟩
    rw [read]
    simp [clampNat]
  case applied =>
    have applied : exec .applyPin s = .next ((s.afterTaking l).pinEdit l .pin scr { owner := some l, lapse := minutes * 60 }) :=
      exec_apply hchosen
    rw [applied]
    exact ⟨fun h => congrArg _ (pinEdit_afterTaking_own _ _ (owner_not_other h)),
      fun h hrank => congrArg _ (pinEdit_afterTaking_senior _ _ h hrank),
      fun h hrank => congrArg _ (pinEdit_afterTaking_refused _ _ h hrank)⟩

/-- Settles O21, by the owner of the pin and the rank. -/
theorem unpinByOwnerAndRank : Obligations.UnpinByOwnerAndRank := by
  intro s l scr hchosen unpinned
  have applied : exec .applyUnpin s = .next ((s.afterTaking l).unpinScreen l scr) := exec_apply hchosen
  have owned {k : Link} (h : (s.pins.get scr).owner = some k) :
      exec .applyUnpin s = .next ((s.afterTaking l).pinEdit l .unpin scr .clear) := by
    rw [applied, State.unpinScreen, pins_afterTaking, if_neg (by simp [h])]
  refine ⟨fun h => ?_, fun h => ?_, fun h hrank => ?_, fun h hrank => ?_⟩
  · rw [applied, State.unpinScreen, pins_afterTaking, if_pos h]
  · rw [owned h, pinEdit_afterTaking_own _ _ (owner_not_other (.inr h))]
    rfl
  · rw [owned h, pinEdit_afterTaking_senior _ _ h hrank]
    rfl
  · rw [owned h, pinEdit_afterTaking_refused _ _ h hrank]

/-! ## SET_ZONE and answers (R132 to R134, R151, R165, R166) -/

/-- Settles O24: the write of one zone and of the detector's settings after the edit is taken. -/
theorem setZoneReplacesTheRecord : Obligations.SetZoneReplacesTheRecord := by
  intro s l z r d hchosen
  have applied : exec .applySetZone s = .next ((s.afterTaking l).applyZone z r d) := exec_apply hchosen
  rw [applied]
  cases l <;> rfl

/-- Settles O26, by whether a reply place is free. -/
theorem answerPlacesTheResult : Obligations.AnswerPlacesTheResult := by
  intro s l tag q hq hb
  have answered : exec (.answerEvent l) s = .next (s.setLink l ((s.link l).placeResult (s.resultBody l tag q))) := by
    have answerable : (s.link l).answerable = some (tag, q) := by simp only [LinkState.answerable, hq, hb]
    simp only [exec, execAnswerEvent, State.answer, answerable, State.modLink_eq]
  rw [answered]
  constructor
  · intro hroom
    have room : (s.link l).replyRoom = true := decide_eq_true hroom
    have units : frameUnits (s.link l).rate (s.resultBody l tag q) =
        ((s.resultContent l q).length + 6) * charUnits (s.link l).rate := by
      simp [frameUnits, State.resultBody]
    rw [LinkState.placeResult, if_pos room, LinkState.enterReply, units]
    rfl
  · intro hfull
    have room : ¬ (s.link l).replyRoom = true := fun h => Nat.not_lt.mpr hfull (of_decide_eq_true h)
    rw [LinkState.placeResult, if_neg room]
    rfl

end Sys2Proof.Machine
end

section
/-! PROOF. Reading a request's body: the values at the places of a layout, and which indices, codes and contributions are read of them (R115, R116, R178, Tables 11-3 and 11-4). -/

namespace Sys2Proof.Machine

/-! ## The fields of a layout -/

/-- The field of one to three bytes at a place of a body. -/
def readField (f : List Byte) (place : Nat) : Nat → Nat
  | 1 => u8 f place
  | 2 => u16 f place
  | 3 => u24 f place
  | _ => 0

/-- From a place on, a body carries the fields of a list in their order. -/
def Carries (f : List Byte) : Nat → List (Nat × Nat) → Prop
  | _, [] => True
  | place, x :: xs => readField f place x.1 = x.2 ∧ Carries f (place + x.1) xs

theorem fits_cons {x : Nat × Nat} {xs : List (Nat × Nat)} : Fits (x :: xs) ↔ x.2 < 256 ^ x.1 ∧ Fits xs :=
  List.forall_mem_cons

theorem fits_append {xs ys : List (Nat × Nat)} : Fits (xs ++ ys) ↔ Fits xs ∧ Fits ys := List.forall_mem_append

theorem fits_nil : Fits [] := nofun

/-- A byte behind other bytes. -/
theorem u8_append (pre f : List Byte) (n : Nat) : u8 (pre ++ f) (pre.length + n) = u8 f n := by
  simp only [u8, List.getD_eq_getElem?_getD, List.getElem?_append_right (Nat.le_add_right _ _), Nat.add_sub_cancel_left]

theorem toNat_b8 (v : Nat) : (b8 v).toNat = v % 256 := BitVec.toNat_ofNat _ _

/-- A field behind other bytes. -/
theorem readField_append (pre f : List Byte) (place width : Nat) :
    readField (pre ++ f) (pre.length + place) width = readField f place width := by
  unfold readField
  split <;> simp only [u24, u16, Nat.add_assoc, u8_append]

/-- The field that a layout writes first is the field read first. -/
theorem readField_bigEndian (f : List Byte) {width v : Nat} (hw : 1 ≤ width ∧ width ≤ 3) (hv : v < 256 ^ width) :
    readField (bigEndian width v ++ f) 0 width = v := by
  obtain rfl | rfl | rfl : width = 1 ∨ width = 2 ∨ width = 3 := by omega
  · simp [readField, u8, toNat_b8]
    omega
  · simp [readField, be16, u16, u8, toNat_b8]
    omega
  · simp [readField, be24, u24, u16, u8, toNat_b8]
    omega

theorem length_bigEndian (width v : Nat) : (bigEndian width v).length = width := by simp [bigEndian]

theorem carries_append_layout (xs : List (Nat × Nat)) (pre : List Byte) (hw : ∀ x ∈ xs, 1 ≤ x.1 ∧ x.1 ≤ 3) (hv : Fits xs) :
    Carries (pre ++ layout xs) pre.length xs := by
  induction xs generalizing pre with
  | nil => trivial
  | cons x xs ih =>
    obtain ⟨hx, hxs⟩ := List.forall_mem_cons.mp hw
    obtain ⟨vx, vxs⟩ := fits_cons.mp hv
    have rest := ih (pre ++ bigEndian x.1 x.2) hxs vxs
    rw [List.length_append, length_bigEndian, List.append_assoc] at rest
    have first := readField_append pre (bigEndian x.1 x.2 ++ layout xs) 0 x.1
    exact ⟨first.trans (readField_bigEndian (layout xs) hx vx), rest⟩

/-- A layout whose values fit carries its fields. -/
theorem carries_layout {xs : List (Nat × Nat)} (hw : ∀ x ∈ xs, 1 ≤ x.1 ∧ x.1 ≤ 3) (hv : Fits xs) : Carries (layout xs) 0 xs :=
  carries_append_layout xs [] hw hv

theorem carries_append {f : List Byte} {place : Nat} {xs ys : List (Nat × Nat)} :
    Carries f place (xs ++ ys) ↔ Carries f place xs ∧ Carries f (place + (xs.map Prod.fst).sum) ys := by
  induction xs generalizing place with
  | nil => simp [Carries]
  | cons x xs ih => simp [Carries, ih, and_assoc, Nat.add_assoc]

/-! ## Flags, crops, colours, signed numbers (R116) -/

section Parts
variable {f : List Byte} {place : Nat}

theorem flagBit_of {v : Nat} (h : u8 f place = v) : flagBit f place = decide (v % 2 = 1) := by rw [flagBit, h]

theorem clampNat_zero (hi n : Nat) : clampNat 0 hi n = min hi n := Nat.zero_max _

theorem readCrop_of {cl cr ct cb : Nat} (h : Carries f place (cropFields cl cr ct cb)) :
    readCrop f place = clampedCrop cl cr ct cb := by
  obtain ⟨hcl, hcr, hct, hcb, -⟩ := h
  simp only [readField] at hcl hcr hct hcb
  simp only [readCrop, clampedCrop, clampNat_zero, hcl, hcr, hct, hcb, Nat.min_comm]

theorem readColour_of {r g b : Nat} (h : Carries f place (colourFields r g b)) :
    readColour f place = clampedColour r g b := by
  obtain ⟨hr, hg, hb, -⟩ := h
  simp only [readField] at hr hg hb
  simp only [readColour, clampedColour, component, hr, hg, hb, Nat.min_comm]

/-- A signed field is read in two's complement. -/
theorem s16_of {v : Nat} (h : u16 f place = v) (hv : v < 65536) : s16 f place = twos v := by
  rw [s16, h, BitVec.toInt_eq_toNat_cond, BitVec.toNat_ofNat, Nat.mod_eq_of_lt hv, twos]
  split <;> split <;> omega

end Parts

/-! ## Indices (R115) -/

theorem index_number {n : Nat} (i : Fin n) : index n (i.val + 1) = some i := index_eq_some.mpr rfl

/-- A number in range is that of a thing. -/
theorem exists_index {n v : Nat} (h : ¬ (v = 0 ∨ n < v)) : ∃ i, index n v = some i := by
  cases hi : index n v with
  | none => exact absurd (index_eq_none.mp hi) h
  | some i => exact ⟨i, rfl⟩

theorem number_some_ne_zero {n : Nat} (i : Fin n) : number (some i) ≠ 0 := Nat.succ_ne_zero i.val

theorem windowSource_number (src : Option InputIx) : windowSource (number src) = some src := by
  cases src with
  | none => rfl
  | some i =>
    rw [windowSource, if_neg (number_some_ne_zero i)]
    exact congrArg (Option.map some) (index_number i)

theorem windowSource_eq_none {v : Nat} : windowSource v = none ↔ 12 < v := by
  unfold windowSource
  split
  · next h => simp [h]
  · next h =>
    rw [Option.map_eq_none_iff, index_eq_none]
    omega

theorem loopSelection_number {i : InputIx} {dest : Option ScreenIx} (h : dest ≠ none → 10 ≤ i.val) :
    loopSelection i (number dest) = some dest := by
  cases dest with
  | none => rfl
  | some scr =>
    rw [loopSelection, if_neg (number_some_ne_zero scr), if_pos (h nofun)]
    exact congrArg (Option.map some) (index_number scr)

/-- A loop selection is out of range beyond screen 16, and for any screen on an input but I11 and I12 (R93, R115). -/
theorem loopSelection_eq_none {i : InputIx} {v : Nat} : loopSelection i v = none ↔ (i.val < 10 ∧ v ≠ 0) ∨ 16 < v := by
  unfold loopSelection
  split
  · next h => simp [h]
  · split
    · rw [Option.map_eq_none_iff, index_eq_none]
      omega
    · simp only [true_iff]
      omega

theorem contributionSource_number (src : AudioSource) : contributionSource (sourceNumber src) = some src := by
  cases src with
  | an => rfl
  | input i =>
    have : sourceNumber (.input i) ≠ 13 := by simp only [sourceNumber]; omega
    rw [contributionSource, if_neg this]
    exact congrArg (Option.map AudioSource.input) (index_number i)

theorem contributionSource_eq_none {v : Nat} : contributionSource v = none ↔ v = 0 ∨ 13 < v := by
  unfold contributionSource
  split
  · next h => simp [h]
  · rw [Option.map_eq_none_iff, index_eq_none]
    omega

/-- A number in range is that of a source. -/
theorem exists_sourceNumber {v : Nat} (h : ¬ (v = 0 ∨ 13 < v)) : ∃ src, v = sourceNumber src := by
  by_cases han : v = 13
  · exact ⟨.an, han⟩
  · exact ⟨.input ⟨v - 1, by omega⟩, by simp only [sourceNumber]; omega⟩

theorem sourceNumber_injective : Function.Injective sourceNumber := fun x y h =>
  Option.some.inj (by rw [← contributionSource_number x, h, contributionSource_number y])

/-! ## Codes (Table 11-4): each code is read as what it stands for, and no other value is a code -/

section Codes
variable {v : Nat}

theorem onOff_bit (x : Bool) : onOff (bit x) = some x := by cases x <;> rfl

theorem onOff_eq_none : onOff v = none ↔ 1 < v := by
  rcases v with _ | _ | v <;> simp [onOff]

theorem screenClass_code (c : ScreenClass) : screenClass c.code.toNat = some c := by cases c <;> rfl

theorem screenClass_eq_none : screenClass v = none ↔ 2 < v := by
  rcases v with _ | _ | _ | v <;> simp [screenClass]

theorem screenRate_code (x : Rate) : screenRate x.code.toNat = some x := by cases x <;> rfl

theorem screenRate_eq_none : screenRate v = none ↔ 2 < v := by
  rcases v with _ | _ | _ | v <;> simp [screenRate]

theorem patternOf_code (p : Pattern) : patternOf p.code.toNat = some p := by cases p <;> rfl

theorem patternOf_eq_none : patternOf v = none ↔ 4 < v := by
  rcases v with _ | _ | _ | _ | _ | v <;> simp [patternOf]

theorem criterionOf_code (c : Criterion) : criterionOf c.code.toNat = some c := by cases c <;> rfl

theorem criterionOf_eq_none : criterionOf v = none ↔ 1 < v := by
  rcases v with _ | _ | v <;> simp [criterionOf]

theorem slateModeOf_code (m : SlateMode) : slateModeOf m.code.toNat = some m := by cases m <;> rfl

theorem slateModeOf_eq_none : slateModeOf v = none ↔ 1 < v := by
  rcases v with _ | _ | v <;> simp [slateModeOf]

theorem counterKindOf_code (k : CounterKind) : counterKindOf k.code.toNat = some k := by cases k <;> rfl

theorem counterKindOf_eq_none : counterKindOf v = none ↔ 3 < v := by
  rcases v with _ | _ | _ | _ | v <;> simp [counterKindOf]

theorem snapshotModeOf_code (m : SnapshotMode) : snapshotModeOf m.code.toNat = some m := by cases m <;> rfl

theorem snapshotModeOf_eq_none : snapshotModeOf v = none ↔ 1 < v := by
  rcases v with _ | _ | v <;> simp [snapshotModeOf]

theorem zoneModeOf_code (m : ZoneMode) : zoneModeOf m.code.toNat = some m := by cases m <;> rfl

theorem zoneModeOf_eq_none : zoneModeOf v = none ↔ 2 < v := by
  rcases v with _ | _ | _ | v <;> simp [zoneModeOf]

end Codes

/-! ## Contributions (R115, R116, R138) -/

/-- The fields of a SET_ZONE's list: a source and a gain each. -/
def contributionFields (list : List (Nat × Nat)) : List (Nat × Nat) := list.flatMap fun c => [(1, c.1), (2, c.2)]

/-- The contributions of sources with the gains of a SET_ZONE's list, clamped. -/
def contributionsOf (sources : List AudioSource) (list : List (Nat × Nat)) : List Contribution :=
  (sources.zip (list.map Prod.snd)).map fun c => { source := c.1, gain := min 2048 c.2 }

section Contributions
variable {f : List Byte} {place : Nat} {list : List (Nat × Nat)}

/-- Sources that are numbers of sources are read with their gains clamped. -/
theorem readContributions_of {sources : List AudioSource} (h : Carries f place (contributionFields list))
    (hs : list.map Prod.fst = sources.map sourceNumber) :
    readContributions f place list.length = some (contributionsOf sources list) := by
  induction list generalizing place sources with
  | nil =>
    cases sources with
    | nil => rfl
    | cons src sources => cases hs
  | cons c list ih =>
    cases sources with
    | nil => cases hs
    | cons src sources =>
      obtain ⟨hsrc, hsources⟩ := List.cons.inj hs
      obtain ⟨hsource, hgain, hrest⟩ := h
      simp only [readField] at hsource hgain
      have rest := ih (place := place + 3) hrest hsources
      simp only [List.length_cons, readContributions, hsource, hgain, hsrc, contributionSource_number, rest, clampNat_zero,
        contributionsOf, List.map_cons, List.zip_cons_cons]

/-- A source that is no number of a source spoils the list. -/
theorem readContributions_bad (h : Carries f place (contributionFields list)) (hbad : ∃ c ∈ list, c.1 = 0 ∨ 13 < c.1) :
    readContributions f place list.length = none := by
  induction list generalizing place with
  | nil =>
    obtain ⟨c, hc, -⟩ := hbad
    cases hc
  | cons c list ih =>
    obtain ⟨hsource, -, hrest⟩ := h
    simp only [readField] at hsource
    rw [List.length_cons, readContributions, hsource]
    obtain ⟨x, hx, hxbad⟩ := hbad
    rcases List.mem_cons.mp hx with rfl | hx
    · rw [contributionSource_eq_none.mpr hxbad]
    · rw [ih (place := place + 3) hrest ⟨x, hx, hxbad⟩]
      cases contributionSource c.1 <;> rfl

/-- Numbers that are all those of sources. -/
theorem exists_sources (h : ¬ ∃ c ∈ list, c.1 = 0 ∨ 13 < c.1) :
    ∃ sources : List AudioSource, list.map Prod.fst = sources.map sourceNumber := by
  induction list with
  | nil => exact ⟨[], rfl⟩
  | cons c list ih =>
    obtain ⟨sources, hs⟩ := ih fun ⟨x, hx, hbad⟩ => h ⟨x, List.mem_cons_of_mem c hx, hbad⟩
    obtain ⟨src, hsrc⟩ := exists_sourceNumber fun hbad => h ⟨c, List.mem_cons_self, hbad⟩
    exact ⟨src :: sources, by rw [List.map_cons, List.map_cons, hs, hsrc]⟩

/-- No source stands twice in the contributions read exactly when none does among the sources. -/
theorem noSourceTwice_contributionsOf {sources : List AudioSource} (hs : list.map Prod.fst = sources.map sourceNumber) :
    noSourceTwice (contributionsOf sources list) = true ↔ sources.Nodup := by
  have hlen : list.length = sources.length := by simpa using congrArg List.length hs
  have hfst : (sources.zip (list.map Prod.snd)).map Prod.fst = sources :=
    List.map_fst_zip (by rw [List.length_map, hlen])
  have hsources : (contributionsOf sources list).map (·.source) = sources := by
    rw [contributionsOf, List.map_map]
    exact hfst
  rw [noSourceTwice, hsources, decide_eq_true_iff]

theorem nodup_sources {sources : List AudioSource} (hs : list.map Prod.fst = sources.map sourceNumber) :
    (list.map Prod.fst).Nodup ↔ sources.Nodup := by
  rw [hs, List.nodup_map_iff sourceNumber_injective]

end Contributions

end Sys2Proof.Machine
end

section
/-! PROOF. The checks of each kind of edit, case by case, and what an edit that passes them holds (R115, R116, R129, R178). -/

namespace Sys2Proof.Machine

/-! ## Each kind's reader, case by case (R115) -/

section Readers
variable {f : List Byte}

theorem readSetMain_ok {scr : ScreenIx} {src : Option InputIx} (hscr : index 16 (u8 f 1) = some scr)
    (hsrc : windowSource (u8 f 2) = some src) :
    readSetMain f = .ok (.setMain (flagBit f 0) scr { source := src, crop := readCrop f 3 }) := by
  simp only [readSetMain, hscr, hsrc]

theorem readSetMain_badIndex (h : index 16 (u8 f 1) = none ∨ windowSource (u8 f 2) = none) :
    readSetMain f = .error .badIndex := by
  unfold readSetMain
  split
  · next hscr hsrc => simp [hscr, hsrc] at h
  · rfl

theorem readSetInset_ok {scr : ScreenIx} {k : InsetIx} {src : Option InputIx} (hscr : index 16 (u8 f 1) = some scr)
    (hk : index 3 (u8 f 2) = some k) (hsrc : windowSource (u8 f 3) = some src) :
    readSetInset f = .ok (.setInset (flagBit f 0) scr k (readInsetRequest src f)) := by
  simp only [readSetInset, hscr, hk, hsrc]

theorem readSetInset_badIndex
    (h : index 16 (u8 f 1) = none ∨ index 3 (u8 f 2) = none ∨ windowSource (u8 f 3) = none) :
    readSetInset f = .error .badIndex := by
  unfold readSetInset
  split
  · next hscr hk hsrc => simp [hscr, hk, hsrc] at h
  · rfl

theorem readClearInset_ok {scr : ScreenIx} {k : InsetIx} (hscr : index 16 (u8 f 1) = some scr)
    (hk : index 3 (u8 f 2) = some k) : readClearInset f = .ok (.clearInset (flagBit f 0) scr k) := by
  simp only [readClearInset, hscr, hk]

theorem readClearInset_badIndex (h : index 16 (u8 f 1) = none ∨ index 3 (u8 f 2) = none) :
    readClearInset f = .error .badIndex := by
  unfold readClearInset
  split
  · next hscr hk => simp [hscr, hk] at h
  · rfl

theorem readSwap_ok {scr : ScreenIx} {k : InsetIx} (hscr : index 16 (u8 f 1) = some scr)
    (hk : index 3 (u8 f 2) = some k) : readSwap f = .ok (.swap (flagBit f 0) scr k) := by
  simp only [readSwap, hscr, hk]

theorem readSwap_badIndex (h : index 16 (u8 f 1) = none ∨ index 3 (u8 f 2) = none) : readSwap f = .error .badIndex := by
  unfold readSwap
  split
  · next hscr hk => simp [hscr, hk] at h
  · rfl

theorem readSetScreen_ok {scr : ScreenIx} {x : Settings} (hscr : index 16 (u8 f 1) = some scr)
    (hcls : screenClass (u8 f 2) = some x.cls) (hrate : screenRate (u8 f 3) = some x.rate)
    (hstandby : onOff (u8 f 4) = some x.standby) (hpattern : patternOf (u8 f 5) = some x.pattern)
    (hcolour : readColour f 6 = x.background) :
    readSetScreen f = .ok (.setScreen (flagBit f 0) scr x) := by
  simp only [readSetScreen, hscr, hcls, hrate, hstandby, hpattern, hcolour]

theorem readSetScreen_badIndex (h : index 16 (u8 f 1) = none) : readSetScreen f = .error .badIndex := by
  simp only [readSetScreen, h]

theorem readSetScreen_badValue {scr : ScreenIx} (hscr : index 16 (u8 f 1) = some scr)
    (h : screenClass (u8 f 2) = none ∨ screenRate (u8 f 3) = none ∨ onOff (u8 f 4) = none ∨ patternOf (u8 f 5) = none) :
    readSetScreen f = .error .badValue := by
  simp only [readSetScreen, hscr]
  split
  · next hcls hrate hstandby hpattern => simp [hcls, hrate, hstandby, hpattern] at h
  · rfl

theorem readSetInput_ok {i : InputIx} {x : InputSettings} (hi : index 12 (u8 f 0) = some i)
    (hloop : loopSelection i (u8 f 10) = some x.loop) (hcriterion : criterionOf (u8 f 1) = some x.criterion)
    (hslate : slateModeOf (u8 f 2) = some x.slateMode) (hhold : clampNat 0 60 (u8 f 3) = x.holdTime)
    (hcolour : readColour f 4 = x.fillColour) (hchecker : onOff (u8 f 11) = some x.checkerOn)
    (hkind : counterKindOf (u8 f 12) = some x.counterKind) (hmode : snapshotModeOf (u8 f 13) = some x.snapshotMode) :
    readSetInput f = .ok (.setInput i x) := by
  simp only [readSetInput, hi, hloop, hcriterion, hslate, hhold, hcolour, hchecker, hkind, hmode]

theorem readSetInput_badInput (h : index 12 (u8 f 0) = none) : readSetInput f = .error .badIndex := by
  simp only [readSetInput, h]

theorem readSetInput_badLoop {i : InputIx} (hi : index 12 (u8 f 0) = some i) (h : loopSelection i (u8 f 10) = none) :
    readSetInput f = .error .badIndex := by
  simp only [readSetInput, hi, h]

theorem readSetInput_badValue {i : InputIx} {lp : Option ScreenIx} (hi : index 12 (u8 f 0) = some i)
    (hloop : loopSelection i (u8 f 10) = some lp)
    (h : criterionOf (u8 f 1) = none ∨ slateModeOf (u8 f 2) = none ∨ onOff (u8 f 11) = none ∨
      counterKindOf (u8 f 12) = none ∨ snapshotModeOf (u8 f 13) = none) :
    readSetInput f = .error .badValue := by
  simp only [readSetInput, hi, hloop]
  split
  · next hcriterion hslate hchecker hkind hmode => simp [hcriterion, hslate, hchecker, hkind, hmode] at h
  · rfl

/-- The record and the detector settings of a SET_ZONE whose indices and codes are read. -/
def zoneEdit (f : List Byte) (z : ZoneIx) (mode : ZoneMode) (follow : ScreenIx) (duck : Bool) (cs : List Contribution) : Edit :=
  .setZone z
    { mode := mode, follow := follow, contributions := cs, level := clampNat 0 1024 (u16 f 3)
      delay := clampNat 0 200 (u8 f 5), duckEnable := duck, duckGain := clampNat 0 1024 (u16 f 7)
      announceGain := clampNat 0 2048 (u16 f 9) }
    { threshold := clampNat 0 8388607 (u24 f 11), nd := clampNat 1 16 (u8 f 14), nc := clampNat 1 255 (u8 f 15) }

theorem readSetZone_badIndex
    (h : index 4 (u8 f 0) = none ∨ index 16 (u8 f 2) = none ∨ readContributions f 17 (u8 f 16) = none) :
    readSetZone f = .error .badIndex := by
  unfold readSetZone
  split
  · next hz hfollow hcs => simp [hz, hfollow, hcs] at h
  · rfl

section SetZone
variable {z : ZoneIx} {follow : ScreenIx} {cs : List Contribution} (hz : index 4 (u8 f 0) = some z)
  (hfollow : index 16 (u8 f 2) = some follow) (hcs : readContributions f 17 (u8 f 16) = some cs)
include hz hfollow hcs

theorem readSetZone_badValue (h : zoneModeOf (u8 f 1) = none ∨ onOff (u8 f 6) = none) :
    readSetZone f = .error .badValue := by
  simp only [readSetZone, hz, hfollow, hcs]
  split
  · next hmode hduck => simp [hmode, hduck] at h
  · rfl

/-- With indices and codes read, a source named twice is all that can refuse a SET_ZONE. -/
theorem readSetZone_read {mode : ZoneMode} {duck : Bool} (hmode : zoneModeOf (u8 f 1) = some mode)
    (hduck : onOff (u8 f 6) = some duck) :
    readSetZone f =
      if noSourceTwice cs then .ok (zoneEdit f z mode follow duck cs) else .error .duplicateSource := by
  simp only [readSetZone, hz, hfollow, hcs, hmode, hduck, zoneEdit]

end SetZone

/-! ### GROUP (R129, R178) -/

theorem readGroup_badScreen (h : index 16 (u8 f 0) = none ∨ index 16 (u8 f 1) = none) : readGroup f = .error .badIndex := by
  unfold readGroup
  split
  · next hbase hlimit => simp [hbase, hlimit] at h
  · rfl

/-- A GROUP whose bounds are screens: a limit below its base comes before what is `next`. -/
def groupRange (base limit : ScreenIx) (next : Except NakReason Edit) : Except NakReason Edit :=
  if limit < base then .error .badRange else next

section Group
variable {base limit : ScreenIx} (hbase : index 16 (u8 f 0) = some base) (hlimit : index 16 (u8 f 1) = some limit)
include hbase hlimit

theorem readGroup_main {src : Option InputIx} (hsub : u8 f 3 = 0) (hsrc : windowSource (u8 f 4) = some src) :
    readGroup f =
      groupRange base limit (.ok (.group base limit (flagBit f 2) (.main { source := src, crop := readCrop f 5 }))) := by
  simp only [readGroup, hbase, hlimit, hsub, hsrc, groupRange]

theorem readGroup_badSource (hsub : u8 f 3 = 0) (hsrc : windowSource (u8 f 4) = none) : readGroup f = .error .badIndex := by
  simp only [readGroup, hbase, hlimit, hsub, hsrc]

theorem readGroup_standby {on : Bool} (hsub : u8 f 3 = 1) (hon : onOff (u8 f 4) = some on) :
    readGroup f = groupRange base limit (.ok (.group base limit (flagBit f 2) (.standby on))) := by
  simp only [readGroup, hbase, hlimit, hsub, hon, groupRange]

theorem readGroup_badStandby (hsub : u8 f 3 = 1) (hon : onOff (u8 f 4) = none) :
    readGroup f = groupRange base limit (.error .badValue) := by
  simp only [readGroup, hbase, hlimit, hsub, hon, groupRange]

theorem readGroup_pattern {p : Pattern} (hsub : u8 f 3 = 2) (hp : patternOf (u8 f 4) = some p) :
    readGroup f = groupRange base limit (.ok (.group base limit (flagBit f 2) (.pattern p))) := by
  simp only [readGroup, hbase, hlimit, hsub, hp, groupRange]

theorem readGroup_badPattern (hsub : u8 f 3 = 2) (hp : patternOf (u8 f 4) = none) :
    readGroup f = groupRange base limit (.error .badValue) := by
  simp only [readGroup, hbase, hlimit, hsub, hp, groupRange]

theorem readGroup_badSub (hsub : 2 < u8 f 3) : readGroup f = groupRange base limit (.error .badValue) := by
  obtain ⟨n, hn⟩ := Nat.exists_eq_add_of_lt hsub
  have hn : u8 f 3 = n + 3 := by omega
  simp only [readGroup, hbase, hlimit, hn, groupRange]

end Group

end Readers

/-! ## GROUP (O15) -/

/-- The reason of a refusal. -/
def refusal : Except NakReason Edit → Option NakReason
  | .error r => some r
  | .ok _ => none

theorem refusal_groupRange (base limit : ScreenIx) (next : Except NakReason Edit) :
    refusal (groupRange base limit next) = if limit < base then some .badRange else refusal next := by
  unfold groupRange
  split <;> rfl

/-- A number of a thing below another's. -/
theorem index_lt_iff {n v w : Nat} {i j : Fin n} (hi : index n v = some i) (hj : index n w = some j) : i < j ↔ v < w := by
  rw [index_eq_some.mp hi, index_eq_some.mp hj, Nat.add_lt_add_iff_right, Fin.lt_def]

/-- The order of a GROUP's checks, by its bounds, its sub-kind and its value. -/
theorem refusal_readGroup (base limit flags sub value : Byte) (crop : List Byte) :
    refusal (readGroup (base :: limit :: flags :: sub :: value :: crop)) =
      if (base.toNat = 0 ∨ 16 < base.toNat) ∨ (limit.toNat = 0 ∨ 16 < limit.toNat) ∨ (sub.toNat = 0 ∧ 12 < value.toNat) then
        some .badIndex
      else if limit.toNat < base.toNat then some .badRange
      else if 2 < sub.toNat ∨ (sub.toNat = 1 ∧ 1 < value.toNat) ∨ (sub.toNat = 2 ∧ 4 < value.toNat) then some .badValue
      else none := by
  generalize hf : base :: limit :: flags :: sub :: value :: crop = f
  have f0 : u8 f 0 = base.toNat := hf ▸ rfl
  have f1 : u8 f 1 = limit.toNat := hf ▸ rfl
  have f3 : u8 f 3 = sub.toNat := hf ▸ rfl
  have f4 : u8 f 4 = value.toNat := hf ▸ rfl
  rw [← f0, ← f1, ← f3, ← f4]
  by_cases hb : u8 f 0 = 0 ∨ 16 < u8 f 0
  · rw [readGroup_badScreen (.inl (index_eq_none.mpr hb)), if_pos (.inl hb), refusal]
  by_cases hl : u8 f 1 = 0 ∨ 16 < u8 f 1
  · rw [readGroup_badScreen (.inr (index_eq_none.mpr hl)), if_pos (.inr (.inl hl)), refusal]
  obtain ⟨b, hbase⟩ := exists_index hb
  obtain ⟨l, hlimit⟩ := exists_index hl
  have hsub : u8 f 3 = 0 ∨ u8 f 3 = 1 ∨ u8 f 3 = 2 ∨ 2 < u8 f 3 := by omega
  simp only [← windowSource_eq_none, ← onOff_eq_none, ← patternOf_eq_none, hb, hl, false_or, ← index_lt_iff hlimit hbase]
  rcases hsub with hsub | hsub | hsub | hsub
  · cases hsrc : windowSource (u8 f 4) with
    | none => simp [readGroup_badSource hbase hlimit hsub hsrc, hsub, refusal]
    | some src =>
      rw [readGroup_main hbase hlimit hsub hsrc, refusal_groupRange]
      simp [hsub, refusal]
  · cases hon : onOff (u8 f 4) with
    | none =>
      rw [readGroup_badStandby hbase hlimit hsub hon, refusal_groupRange]
      simp [hsub, refusal]
    | some on =>
      rw [readGroup_standby hbase hlimit hsub hon, refusal_groupRange]
      simp [hsub, refusal]
  · cases hp : patternOf (u8 f 4) with
    | none =>
      rw [readGroup_badPattern hbase hlimit hsub hp, refusal_groupRange]
      simp [hsub, refusal]
    | some p =>
      rw [readGroup_pattern hbase hlimit hsub hp, refusal_groupRange]
      simp [hsub, refusal]
  · have known : u8 f 3 ≠ 0 := by omega
    rw [readGroup_badSub hbase hlimit hsub, refusal_groupRange]
    simp [hsub, known, refusal]

theorem groupRange_of_le {base limit : ScreenIx} (h : base ≤ limit) (next : Except NakReason Edit) :
    groupRange base limit next = next := if_neg (not_lt.mpr h)

/-- The fields of a GROUP within its bounds. -/
def groupFields (base limit : ScreenIx) (flags sub value cl cr ct cb : Nat) : List (Nat × Nat) :=
  [(1, base.val + 1), (1, limit.val + 1), (1, flags), (1, sub), (1, value)] ++ cropFields cl cr ct cb

/-- What is read of a GROUP's bounds, invert bit, sub-kind, value and crop. -/
theorem readGroup_fields {base limit : ScreenIx} {flags sub value cl cr ct cb : Nat}
    (hfits : Fits ((1, flags) :: cropFields cl cr ct cb)) (hsub : sub < 256) (hvalue : value < 256) :
    let f := layout (groupFields base limit flags sub value cl cr ct cb)
    index 16 (u8 f 0) = some base ∧ index 16 (u8 f 1) = some limit ∧ flagBit f 2 = decide (flags % 2 = 1) ∧
      u8 f 3 = sub ∧ u8 f 4 = value ∧ readCrop f 5 = clampedCrop cl cr ct cb := by
  obtain ⟨hflags, hcrop⟩ := fits_cons.mp hfits
  have hbase : base.val + 1 < 256 := by omega
  have hlimit : limit.val + 1 < 256 := by omega
  have fits : Fits (groupFields base limit flags sub value cl cr ct cb) := fits_append.mpr
    ⟨by simpa only [fits_cons, fits_nil, and_true] using ⟨hbase, hlimit, hflags, hsub, hvalue⟩, hcrop⟩
  obtain ⟨rbase, rlimit, rflags, rsub, rvalue, rcrop⟩ := carries_layout (by simp [groupFields, cropFields]) fits
  exact ⟨index_eq_some.mpr rbase, index_eq_some.mpr rlimit, flagBit_of rflags, rsub, rvalue, readCrop_of rcrop⟩

theorem number_lt (src : Option InputIx) : number src < 256 := by
  cases src with
  | none => decide
  | some i => simp only [number]; omega

theorem bit_lt (on : Bool) : bit on < 256 := by cases on <;> decide

/-- Settles O15: the order of the checks, and the group of each sub-kind. -/
theorem groupChecksComeInOrder : Obligations.GroupChecksComeInOrder := by
  refine ⟨fun base limit flags sub value crop => ?order, fun base limit flags cl cr ct cb hle hfits => ⟨fun src => ?main,
    fun on => ?standby, fun p => ?pattern⟩⟩
  case order => exact refusal_readGroup base limit flags sub value crop
  case main =>
    obtain ⟨hbase, hlimit, hflags, hsub, hvalue, hcrop⟩ := readGroup_fields hfits (sub := 0) (by decide) (number_lt src)
    have read := readGroup_main hbase hlimit hsub (hvalue ▸ windowSource_number src)
    rwa [groupRange_of_le hle, hflags, hcrop] at read
  case standby =>
    obtain ⟨hbase, hlimit, hflags, hsub, hvalue, -⟩ := readGroup_fields hfits (sub := 1) (by decide) (bit_lt on)
    have read := readGroup_standby hbase hlimit hsub (hvalue ▸ onOff_bit on)
    rwa [groupRange_of_le hle, hflags] at read
  case pattern =>
    obtain ⟨hbase, hlimit, hflags, hsub, hvalue, -⟩ := readGroup_fields hfits (sub := 2) (by decide) p.code.isLt
    have read := readGroup_pattern hbase hlimit hsub (hvalue ▸ patternOf_code p)
    rwa [groupRange_of_le hle, hflags] at read

end Sys2Proof.Machine
end

section
/-! PROOF. An edit that passes its checks is of its request's kind and in range; which edit or refusal a layout of each kind is read as (R115, R116, R178). -/

namespace Sys2Proof.Machine

/-! ## The kind of what is read -/

theorem kind_of_readGroup {f : List Byte} {e : Edit} (h : readGroup f = .ok e) : e.kind = .group := by
  unfold readGroup at h
  split at h
  · next base limit _ _ =>
    have inRange {r : Except NakReason Edit} (hr : (if limit < base then .error .badRange else r) = .ok e) : r = .ok e := by
      split at hr
      · cases hr
      · exact hr
    simp only at h
    split at h
    · split at h
      · cases inRange h
        rfl
      · cases h
    · have he := inRange h
      split at he
      · cases he
        rfl
      · cases he
    · have he := inRange h
      split at he
      · cases he
        rfl
      · cases he
    · cases inRange h
  · cases h

theorem kind_of_readSetScreen {f : List Byte} {e : Edit} (h : readSetScreen f = .ok e) : e.kind = .setScreen := by
  unfold readSetScreen at h
  split at h
  · cases h
  · split at h
    · cases h
      rfl
    · cases h

theorem kind_of_readSetInput {f : List Byte} {e : Edit} (h : readSetInput f = .ok e) : e.kind = .setInput := by
  unfold readSetInput at h
  split at h
  · cases h
  · split at h
    · cases h
    · split at h
      · cases h
        rfl
      · cases h

theorem kind_of_readSetZone {f : List Byte} {e : Edit} (h : readSetZone f = .ok e) : e.kind = .setZone := by
  unfold readSetZone at h
  split at h
  · split at h
    · split at h
      · cases h
        rfl
      · cases h
    · cases h
  · cases h

/-- The edit read from a request is of the request's kind. -/
theorem kind_of_readEdit {k : EditKind} {f : List Byte} {e : Edit} (h : readEdit k f = .ok e) : e.kind = k := by
  cases k with
  | setScreen => exact kind_of_readSetScreen h
  | group => exact kind_of_readGroup h
  | setInput => exact kind_of_readSetInput h
  | setZone => exact kind_of_readSetZone h
  | setMain | setInset | clearInset | clearScreen | swap | pin | unpin | snapshotCounters =>
    simp only [readEdit, readSetMain, readSetInset, readClearInset, readClearScreen, readSwap, readPin, readUnpin,
      readSnapshotCounters] at h
    split at h
    · cases h
      rfl
    · cases h

/-! ## What a body that carries the fields of a kind is read as -/

section Layouts
variable {f : List Byte} {flags screen inset source minutes cl cr ct cb x y w h opacity border r g b : Nat}

theorem readSetMain_carries (hf : Carries f 0 ([(1, flags), (1, screen), (1, source)] ++ cropFields cl cr ct cb)) :
    (∀ (scr : ScreenIx) (src : Option InputIx), screen = scr.val + 1 → source = number src →
      readSetMain f = .ok (.setMain (decide (flags % 2 = 1)) scr { source := src, crop := clampedCrop cl cr ct cb })) ∧
    (screen = 0 ∨ 16 < screen ∨ 12 < source → readSetMain f = .error .badIndex) := by
  obtain ⟨hflags, hscreen, hsource, hcrop⟩ := hf
  simp only [readField, Nat.reduceAdd] at hflags hscreen hsource
  replace hcrop : readCrop f 3 = clampedCrop cl cr ct cb := readCrop_of hcrop
  constructor
  · rintro scr src rfl rfl
    rw [readSetMain_ok (by rw [hscreen, index_number]) (by rw [hsource, windowSource_number]), flagBit_of hflags,
      hcrop]
  · intro bad
    refine readSetMain_badIndex ?_
    rwa [index_eq_none, windowSource_eq_none, hscreen, hsource, or_assoc]

theorem readSetInset_carries (hx : x < 65536) (hy : y < 65536)
    (hf : Carries f 0 ([(1, flags), (1, screen), (1, inset), (1, source)] ++ cropFields cl cr ct cb ++
      [(2, x), (2, y), (2, w), (2, h), (2, opacity), (1, border)] ++ colourFields r g b)) :
    (∀ (scr : ScreenIx) (k : InsetIx) (src : Option InputIx), screen = scr.val + 1 → inset = k.val + 1 →
      source = number src →
      readSetInset f =
        .ok (.setInset (decide (flags % 2 = 1)) scr k
          { source := src, crop := clampedCrop cl cr ct cb
            x := max (-1919) (min 1919 (twos x)), y := max (-1079) (min 1079 (twos y))
            w := max 16 (min 3840 w), h := max 16 (min 2160 h), opacity := min 256 opacity, border := min 15 border
            colour := clampedColour r g b })) ∧
    (screen = 0 ∨ 16 < screen ∨ inset = 0 ∨ 3 < inset ∨ 12 < source → readSetInset f = .error .badIndex) := by
  rw [carries_append, carries_append, carries_append] at hf
  obtain ⟨⟨⟨⟨hflags, hscreen, hinset, hsource, -⟩, hcrop⟩, hX, hY, hW, hH, hopacity, hborder, -⟩, hcolour⟩ := hf
  simp only [readField, Nat.reduceAdd] at hflags hscreen hinset hsource
  constructor
  · rintro scr k src rfl rfl rfl
    have request : readInsetRequest src f =
        { source := src, crop := clampedCrop cl cr ct cb
          x := max (-1919) (min 1919 (twos x)), y := max (-1079) (min 1079 (twos y))
          w := max 16 (min 3840 w), h := max 16 (min 2160 h), opacity := min 256 opacity, border := min 15 border
          colour := clampedColour r g b } := by
      replace hX : u16 f 12 = x := hX
      replace hY : u16 f 14 = y := hY
      replace hW : u16 f 16 = w := hW
      replace hH : u16 f 18 = h := hH
      replace hopacity : u16 f 20 = opacity := hopacity
      replace hborder : u8 f 22 = border := hborder
      replace hcrop : readCrop f 4 = clampedCrop cl cr ct cb := readCrop_of hcrop
      replace hcolour : readColour f 23 = clampedColour r g b := readColour_of hcolour
      simp only [readInsetRequest, hcrop, hcolour, s16_of hX hx, s16_of hY hy, hW, hH, hopacity, hborder, clampNat, clampInt,
        Nat.zero_max]
    rw [readSetInset_ok (by rw [hscreen, index_number]) (by rw [hinset, index_number]) (by rw [hsource, windowSource_number]),
      flagBit_of hflags, request]
  · intro bad
    refine readSetInset_badIndex ?_
    rwa [index_eq_none, index_eq_none, windowSource_eq_none, hscreen, hinset, hsource, or_assoc, or_assoc]

theorem readClearInset_readSwap_carries (hf : Carries f 0 [(1, flags), (1, screen), (1, inset)]) :
    (∀ (scr : ScreenIx) (k : InsetIx), screen = scr.val + 1 → inset = k.val + 1 →
      readClearInset f = .ok (.clearInset (decide (flags % 2 = 1)) scr k) ∧
      readSwap f = .ok (.swap (decide (flags % 2 = 1)) scr k)) ∧
    (screen = 0 ∨ 16 < screen ∨ inset = 0 ∨ 3 < inset →
      readClearInset f = .error .badIndex ∧ readSwap f = .error .badIndex) := by
  obtain ⟨hflags, hscreen, hinset, -⟩ := hf
  simp only [readField, Nat.reduceAdd] at hflags hscreen hinset
  constructor
  · rintro scr k rfl rfl
    have hscr : index 16 (u8 f 1) = some scr := index_eq_some.mpr hscreen
    have hk : index 3 (u8 f 2) = some k := index_eq_some.mpr hinset
    rw [readClearInset_ok hscr hk, readSwap_ok hscr hk, flagBit_of hflags]
    exact ⟨rfl, rfl⟩
  · intro bad
    have hnone : index 16 (u8 f 1) = none ∨ index 3 (u8 f 2) = none := by
      rwa [index_eq_none, index_eq_none, hscreen, hinset, or_assoc]
    exact ⟨readClearInset_badIndex hnone, readSwap_badIndex hnone⟩

theorem readClearScreen_carries (hf : Carries f 0 [(1, flags), (1, screen)]) :
    (∀ scr : ScreenIx, screen = scr.val + 1 → readClearScreen f = .ok (.clearScreen (decide (flags % 2 = 1)) scr)) ∧
    (screen = 0 ∨ 16 < screen → readClearScreen f = .error .badIndex) := by
  obtain ⟨hflags, hscreen, -⟩ := hf
  simp only [readField, Nat.reduceAdd] at hflags hscreen
  constructor
  · rintro scr rfl
    rw [readClearScreen, hscreen, index_number, flagBit_of hflags]
  · intro bad
    rw [readClearScreen, hscreen, index_eq_none.mpr bad]

theorem readPin_carries (hf : Carries f 0 [(1, screen), (1, minutes)]) :
    (∀ scr : ScreenIx, screen = scr.val + 1 → readPin f = .ok (.pin scr (min 240 minutes))) ∧
    (screen = 0 ∨ 16 < screen → readPin f = .error .badIndex) := by
  obtain ⟨hscreen, hminutes, -⟩ := hf
  simp only [readField, Nat.reduceAdd] at hscreen hminutes
  constructor
  · rintro scr rfl
    rw [readPin, hscreen, hminutes, index_number, clampNat_zero]
  · intro bad
    rw [readPin, hscreen, index_eq_none.mpr bad]

theorem readUnpin_carries (hf : Carries f 0 [(1, screen)]) :
    (∀ scr : ScreenIx, screen = scr.val + 1 → readUnpin f = .ok (.unpin scr)) ∧
    (screen = 0 ∨ 16 < screen → readUnpin f = .error .badIndex) := by
  obtain ⟨hscreen, -⟩ := hf
  simp only [readField] at hscreen
  constructor
  · rintro scr rfl
    rw [readUnpin, hscreen, index_number]
  · intro bad
    rw [readUnpin, hscreen, index_eq_none.mpr bad]

theorem readSetScreen_carries {cls rate standby pattern : Nat}
    (hf : Carries f 0 ([(1, flags), (1, screen), (1, cls), (1, rate), (1, standby), (1, pattern)] ++ colourFields r g b)) :
    (∀ (scr : ScreenIx) (c : ScreenClass) (x : Rate) (on : Bool) (p : Pattern), screen = scr.val + 1 →
      cls = c.code.toNat → rate = x.code.toNat → standby = bit on → pattern = p.code.toNat →
      readSetScreen f =
        .ok (.setScreen (decide (flags % 2 = 1)) scr
          { cls := c, rate := x, standby := on, pattern := p, background := clampedColour r g b })) ∧
    (screen = 0 ∨ 16 < screen → readSetScreen f = .error .badIndex) ∧
    (1 ≤ screen → screen ≤ 16 → 2 < cls ∨ 2 < rate ∨ 1 < standby ∨ 4 < pattern → readSetScreen f = .error .badValue) := by
  obtain ⟨hflags, hscreen, hcls, hrate, hstandby, hpattern, hcolour⟩ := hf
  simp only [readField, Nat.reduceAdd] at hflags hscreen hcls hrate hstandby hpattern
  refine ⟨?ok, fun bad => readSetScreen_badIndex (by rwa [hscreen, index_eq_none]), fun h1 h16 bad => ?badValue⟩
  case ok =>
    rintro scr c x on p rfl rfl rfl rfl rfl
    rw [← flagBit_of hflags]
    exact readSetScreen_ok (by rw [hscreen, index_number]) (by rw [hcls, screenClass_code]) (by rw [hrate, screenRate_code])
      (by rw [hstandby, onOff_bit]) (by rw [hpattern, patternOf_code]) (readColour_of hcolour)
  case badValue =>
    obtain ⟨scr, hscr⟩ : ∃ scr, index 16 screen = some scr := exists_index (by omega)
    refine readSetScreen_badValue (by rwa [hscreen]) ?_
    rwa [screenClass_eq_none, screenRate_eq_none, onOff_eq_none, patternOf_eq_none, hcls, hrate, hstandby, hpattern]

theorem readSetInput_carries {input criterion slate hold lp checker kind mode : Nat}
    (hf : Carries f 0 ([(1, input), (1, criterion), (1, slate), (1, hold)] ++ colourFields r g b ++
      [(1, lp), (1, checker), (1, kind), (1, mode)])) :
    (∀ (i : InputIx) (c : Criterion) (m : SlateMode) (dest : Option ScreenIx) (on : Bool) (n : CounterKind)
        (sm : SnapshotMode), input = i.val + 1 → (dest ≠ none → 10 ≤ i.val) → criterion = c.code.toNat →
      slate = m.code.toNat → lp = number dest → checker = bit on → kind = n.code.toNat → mode = sm.code.toNat →
      readSetInput f =
        .ok (.setInput i
          { criterion := c, slateMode := m, holdTime := min 60 hold, fillColour := clampedColour r g b, loop := dest
            checkerOn := on, counterKind := n, snapshotMode := sm })) ∧
    (input = 0 ∨ 12 < input ∨ (input ≤ 10 ∧ lp ≠ 0) ∨ 16 < lp → readSetInput f = .error .badIndex) ∧
    (1 ≤ input → input ≤ 12 → (lp = 0 ∨ (10 < input ∧ lp ≤ 16)) →
      1 < criterion ∨ 1 < slate ∨ 1 < checker ∨ 3 < kind ∨ 1 < mode → readSetInput f = .error .badValue) := by
  rw [carries_append, carries_append] at hf
  obtain ⟨⟨⟨hinput, hcriterion, hslate, hhold, -⟩, hcolour⟩, hlp, hchecker, hkind, hmode, -⟩ := hf
  simp only [readField, Nat.reduceAdd] at hinput hcriterion hslate hhold
  replace hlp : u8 f 10 = lp := hlp
  replace hchecker : u8 f 11 = checker := hchecker
  replace hkind : u8 f 12 = kind := hkind
  replace hmode : u8 f 13 = mode := hmode
  refine ⟨?ok, fun bad => ?badIndex, fun h1 h12 hloop bad => ?badValue⟩
  case ok =>
    rintro i c m dest on n sm rfl hdest rfl rfl rfl rfl rfl rfl
    exact readSetInput_ok (by rw [hinput, index_number]) (by rw [hlp, loopSelection_number hdest])
      (by rw [hcriterion, criterionOf_code]) (by rw [hslate, slateModeOf_code]) (by rw [hhold, clampNat_zero])
      (readColour_of hcolour) (by rw [hchecker, onOff_bit]) (by rw [hkind, counterKindOf_code])
      (by rw [hmode, snapshotModeOf_code])
  case badIndex =>
    by_cases hi : input = 0 ∨ 12 < input
    · exact readSetInput_badInput (by rwa [hinput, index_eq_none])
    · obtain ⟨i, hi'⟩ := exists_index hi
      have hval := index_eq_some.mp hi'
      refine readSetInput_badLoop (hinput ▸ hi') ?_
      rw [hlp, loopSelection_eq_none]
      omega
  case badValue =>
    obtain ⟨i, hi⟩ : ∃ i, index 12 input = some i := exists_index (by omega)
    have hval := index_eq_some.mp hi
    cases hsel : loopSelection i lp with
    | none =>
      rw [loopSelection_eq_none] at hsel
      omega
    | some dest =>
      refine readSetInput_badValue (hinput ▸ hi) (hlp ▸ hsel) ?_
      rwa [criterionOf_eq_none, slateModeOf_eq_none, onOff_eq_none, counterKindOf_eq_none, snapshotModeOf_eq_none, hcriterion,
        hslate, hchecker, hkind, hmode]

theorem readSnapshotCounters_carries {inputs : Nat} (hf : Carries f 0 [(2, inputs)]) :
    (inputs < 4096 → readSnapshotCounters f = .ok (.snapshotCounters (BitVec.ofNat 12 inputs))) ∧
    (4096 ≤ inputs → readSnapshotCounters f = .error .badIndex) := by
  obtain ⟨hinputs, -⟩ := hf
  simp only [readField] at hinputs
  rw [readSnapshotCounters, hinputs]
  exact ⟨fun h => if_pos h, fun h => if_neg (Nat.not_lt.mpr h)⟩

end Layouts

/-! ### SET_ZONE -/

section Zone
variable {f : List Byte} {zone mode follow level delay duck duckGain announceGain threshold nd nc : Nat}
  {list : List (Nat × Nat)}

/-- The fields of a SET_ZONE. -/
def zoneFields (zone mode follow level delay duck duckGain announceGain threshold nd nc : Nat) (list : List (Nat × Nat)) :
    List (Nat × Nat) :=
  [(1, zone), (1, mode), (1, follow), (2, level), (1, delay), (1, duck), (2, duckGain), (2, announceGain),
    (3, threshold), (1, nd), (1, nc), (1, list.length)] ++ contributionFields list

/-- An index of a SET_ZONE is out of range (R115). -/
def ZoneIndexBad (zone follow : Nat) (list : List (Nat × Nat)) : Prop :=
  zone = 0 ∨ 4 < zone ∨ follow = 0 ∨ 16 < follow ∨ ∃ c ∈ list, c.1 = 0 ∨ 13 < c.1

theorem width_zoneFields :
    ∀ x ∈ zoneFields zone mode follow level delay duck duckGain announceGain threshold nd nc list, 1 ≤ x.1 ∧ x.1 ≤ 3 := by
  refine List.forall_mem_append.mpr ⟨by simp, fun x hx => ?_⟩
  obtain ⟨c, -, hc⟩ := List.mem_flatMap.mp hx
  have entry : ∀ y ∈ [(1, c.1), (2, c.2)], 1 ≤ y.1 ∧ y.1 ≤ 3 := by simp
  exact entry x hc

/-- Indices in range are those of a zone, a screen and sources. -/
theorem exists_of_not_zoneIndexBad (h : ¬ ZoneIndexBad zone follow list) :
    ∃ (z : ZoneIx) (scr : ScreenIx) (sources : List AudioSource), zone = z.val + 1 ∧ follow = scr.val + 1 ∧
      list.map Prod.fst = sources.map sourceNumber := by
  unfold ZoneIndexBad at h
  push Not at h
  obtain ⟨hz0, hz, hf0, hf, hlist⟩ := h
  obtain ⟨sources, hs⟩ : ∃ sources : List AudioSource, list.map Prod.fst = sources.map sourceNumber :=
    exists_sources fun ⟨c, hc, hbad⟩ => by have := hlist c hc; omega
  exact ⟨⟨zone - 1, by omega⟩, ⟨follow - 1, by omega⟩, sources, by simp only; omega, by simp only; omega, hs⟩

section Carried
variable (hf : Carries f 0 (zoneFields zone mode follow level delay duck duckGain announceGain threshold nd nc list))
include hf

theorem readSetZone_carries_badIndex (bad : ZoneIndexBad zone follow list) : readSetZone f = .error .badIndex := by
  obtain ⟨hzone, -, hfollow, -, -, -, -, -, -, -, -, hcount, hlist⟩ := hf
  replace hzone : u8 f 0 = zone := hzone
  replace hfollow : u8 f 2 = follow := hfollow
  replace hcount : u8 f 16 = list.length := hcount
  refine readSetZone_badIndex ?_
  rw [index_eq_none, index_eq_none, hzone, hfollow, hcount, or_assoc, or_assoc]
  exact bad.imp_right (.imp_right (.imp_right (.imp_right (readContributions_bad hlist))))

section Indices
variable {z : ZoneIx} {scr : ScreenIx} {sources : List AudioSource} (hz : zone = z.val + 1) (hscr : follow = scr.val + 1)
  (hs : list.map Prod.fst = sources.map sourceNumber)
include hz hscr hs

/-- The indices that a body with the fields of a SET_ZONE holds. -/
theorem zone_indices_carries : index 4 (u8 f 0) = some z ∧ index 16 (u8 f 2) = some scr ∧
    readContributions f 17 (u8 f 16) = some (contributionsOf sources list) := by
  obtain ⟨hzone, -, hfollow, -, -, -, -, -, -, -, -, hcount, hlist⟩ := hf
  replace hcount : u8 f 16 = list.length := hcount
  rw [hcount]
  exact ⟨index_eq_some.mpr (hzone.trans hz), index_eq_some.mpr (hfollow.trans hscr), readContributions_of hlist hs⟩

theorem readSetZone_carries_badValue (bad : 2 < mode ∨ 1 < duck) : readSetZone f = .error .badValue := by
  obtain ⟨rz, rfollow, rcs⟩ := zone_indices_carries hf hz hscr hs
  obtain ⟨-, hmode, -, -, -, hduck, -⟩ := hf
  replace hmode : u8 f 1 = mode := hmode
  replace hduck : u8 f 6 = duck := hduck
  refine readSetZone_badValue rz rfollow rcs ?_
  rwa [zoneModeOf_eq_none, onOff_eq_none, hmode, hduck]

/-- A SET_ZONE whose indices and codes are in range: only a source named twice refuses it. -/
theorem readSetZone_carries {m : ZoneMode} {on : Bool} (hm : mode = m.code.toNat) (hon : duck = bit on) :
    readSetZone f =
      if sources.Nodup then
        .ok (.setZone z
          { mode := m, follow := scr, contributions := contributionsOf sources list
            level := min 1024 level, delay := min 200 delay, duckEnable := on, duckGain := min 1024 duckGain
            announceGain := min 2048 announceGain }
          { threshold := min 8388607 threshold, nd := max 1 (min 16 nd), nc := max 1 (min 255 nc) })
      else .error .duplicateSource := by
  obtain ⟨rz, rfollow, rcs⟩ := zone_indices_carries hf hz hscr hs
  obtain ⟨-, hmode, -, hlevel, hdelay, hduck, hduckGain, hannounceGain, hthreshold, hnd, hnc, -⟩ := hf
  replace hmode : u8 f 1 = m.code.toNat := hmode.trans hm
  replace hlevel : u16 f 3 = level := hlevel
  replace hdelay : u8 f 5 = delay := hdelay
  replace hduck : u8 f 6 = bit on := hduck.trans hon
  replace hduckGain : u16 f 7 = duckGain := hduckGain
  replace hannounceGain : u16 f 9 = announceGain := hannounceGain
  replace hthreshold : u24 f 11 = threshold := hthreshold
  replace hnd : u8 f 14 = nd := hnd
  replace hnc : u8 f 15 = nc := hnc
  rw [readSetZone_read rz rfollow rcs (by rw [hmode, zoneModeOf_code]) (by rw [hduck, onOff_bit])]
  simp only [noSourceTwice_contributionsOf hs, zoneEdit, hlevel, hdelay, hduckGain, hannounceGain, hthreshold, hnd, hnc,
    clampNat, Nat.zero_max]

end Indices

end Carried

/-- Values in range are codes. -/
theorem exists_zone_codes (hmode : mode ≤ 2) (hduck : duck ≤ 1) :
    ∃ (m : ZoneMode) (on : Bool), mode = m.code.toNat ∧ duck = bit on := by
  obtain ⟨m, hm⟩ : ∃ m : ZoneMode, mode = m.code.toNat := by
    interval_cases mode
    · exact ⟨.off, rfl⟩
    · exact ⟨.follow, rfl⟩
    · exact ⟨.mix, rfl⟩
  obtain ⟨on, hon⟩ : ∃ on : Bool, duck = bit on := by
    interval_cases duck
    · exact ⟨false, rfl⟩
    · exact ⟨true, rfl⟩
  exact ⟨m, on, hm, hon⟩

end Zone

/-- Settles O14: each kind's layout read through the fields it carries. -/
theorem acceptedEditsAreInRange : Obligations.AcceptedEditsAreInRange := by
  refine ⟨fun k f e hlen h => ⟨kind_of_readEdit h, readEdit_inRange hlen h⟩, ?setMain, ?setInset, ?inset, ?screen,
    ?setScreen, ?setInput, ?setZone, ?snapshot⟩
  case setMain =>
    intro flags screen source cl cr ct cb f hfits
    exact readSetMain_carries (carries_layout (by simp [f, cropFields]) hfits)
  case setInset =>
    intro flags screen inset source cl cr ct cb x y w h opacity border r g b f hfits
    have hx : x < 65536 := hfits (2, x) (by simp [f])
    have hy : y < 65536 := hfits (2, y) (by simp [f])
    exact readSetInset_carries hx hy (carries_layout (by simp [f, cropFields, colourFields]) hfits)
  case inset =>
    intro flags screen inset f hfits
    exact readClearInset_readSwap_carries (carries_layout (by simp [f]) hfits)
  case screen =>
    intro flags screen minutes hfits
    simp only [fits_cons] at hfits
    obtain ⟨hflags, hscreen, hminutes, -⟩ := hfits
    obtain ⟨clear, clearBad⟩ := readClearScreen_carries
      (carries_layout (xs := [(1, flags), (1, screen)]) (by simp) (fits_cons.mpr ⟨hflags, fits_cons.mpr ⟨hscreen, fits_nil⟩⟩))
    obtain ⟨pin, pinBad⟩ := readPin_carries
      (carries_layout (xs := [(1, screen), (1, minutes)]) (by simp)
        (fits_cons.mpr ⟨hscreen, fits_cons.mpr ⟨hminutes, fits_nil⟩⟩))
    obtain ⟨unpin, unpinBad⟩ := readUnpin_carries
      (carries_layout (xs := [(1, screen)]) (by simp) (fits_cons.mpr ⟨hscreen, fits_nil⟩))
    exact ⟨fun scr hscr => ⟨clear scr hscr, pin scr hscr, unpin scr hscr⟩,
      fun bad => ⟨clearBad bad, pinBad bad, unpinBad bad⟩⟩
  case setScreen =>
    intro flags screen cls rate standby pattern r g b f hfits
    exact readSetScreen_carries (carries_layout (by simp [f, colourFields]) hfits)
  case setInput =>
    intro input criterion slate hold r g b lp checker kind mode f hfits
    exact readSetInput_carries (carries_layout (by simp [f, colourFields]) hfits)
  case setZone =>
    intro zone mode follow level delay duck duckGain announceGain threshold nd nc list f hfits _
    have hf : Carries (layout f) 0 _ := carries_layout (xs := zoneFields ..) width_zoneFields hfits
    refine ⟨fun z m scr on sources hz hscr hs hm hon hnodup => ?_, fun bad => readSetZone_carries_badIndex hf bad,
      fun good bad => ?_, fun good hmode hduck twice => ?_⟩
    · exact (readSetZone_carries hf hz hscr hs hm hon).trans (if_pos hnodup)
    · obtain ⟨z, scr, sources, hz, hscr, hs⟩ := exists_of_not_zoneIndexBad good
      exact readSetZone_carries_badValue hf hz hscr hs bad
    · obtain ⟨z, scr, sources, hz, hscr, hs⟩ := exists_of_not_zoneIndexBad good
      obtain ⟨m, on, hm, hon⟩ := exists_zone_codes hmode hduck
      exact (readSetZone_carries hf hz hscr hs hm hon).trans (if_neg fun hn => twice ((nodup_sources hs).mpr hn))
  case snapshot =>
    intro inputs hfits
    exact readSnapshotCounters_carries (carries_layout (by simp) hfits)

end Sys2Proof.Machine
end

section
/-! PROOF. Rounding in the mix, and the judgement of a block by the announce detector (R142, R143, R147, R148, R173). -/

namespace Sys2Proof.Machine

/-! ## Division by 1024 (R142 to R144) -/

theorem round1024_of_nonneg {n : Int} (h : 0 ≤ n) : round1024 n = (n + 512) / 1024 := by
  rcases h.eq_or_lt with rfl | hpos
  · rfl
  · rw [round1024, Int.sign_eq_one_of_pos hpos, one_mul]
    omega

theorem round1024_neg (n : Int) : round1024 (-n) = -round1024 n := by
  rw [round1024, Int.sign_neg, Int.natAbs_neg, neg_mul, round1024]

/-- The quotient of an amount that is not negative is nearest, and the larger one at a tie. -/
theorem round1024_nearest_of_nonneg {n : Int} (h : 0 ≤ n) :
    2 * (n - 1024 * round1024 n).natAbs ≤ 1024 ∧
      (2 * (n - 1024 * round1024 n).natAbs = 1024 → n.natAbs ≤ (1024 * round1024 n).natAbs) := by
  rw [round1024_of_nonneg h]
  omega

/-- Settles O44: the quotient is odd in n, so what holds from 0 up holds below 0 too. -/
theorem roundingIsToNearestTiesAwayFromZero : Obligations.RoundingIsToNearestTiesAwayFromZero := by
  intro n
  rcases Int.le_total 0 n with hn | hn
  · obtain ⟨near, tie⟩ := round1024_nearest_of_nonneg hn
    exact ⟨near, tie, round1024_neg n⟩
  · obtain ⟨near, tie⟩ := round1024_nearest_of_nonneg (Int.neg_nonneg_of_nonpos hn)
    rw [round1024_neg] at near tie
    exact ⟨by omega, by omega, round1024_neg n⟩

/-! ## The table of the judgement (R147, R148) -/

/-- A detector after a judgement that leaves it this state and this run count. -/
def Detector.judgedTo (d : Detector) (state : DetectorState) (run : Nat) : Detector :=
  { d with state := state, run := run, peak := 0, pos := 0, due := false }

section Judging
variable {d : Detector}

/-- In IDLE a loud block counts towards ACTIVE, and a quiet one starts the count again. -/
theorem judge_of_idle (h : d.state = .idle) :
    d.judge =
      if d.settings.threshold ≤ d.peak then
        if d.settings.nd ≤ d.nextRun then d.judgedTo .active 0 else d.judgedTo .idle d.nextRun
      else d.judgedTo .idle 0 := by
  simp only [Detector.judge, Detector.judgedTo, h, decide_eq_true_eq]

/-- In ACTIVE a quiet block counts towards IDLE, and a loud one starts the count again. -/
theorem judge_of_active (h : d.state = .active) :
    d.judge =
      if d.settings.threshold ≤ d.peak then d.judgedTo .active 0
      else if d.settings.nc ≤ d.nextRun then d.judgedTo .idle 0 else d.judgedTo .active d.nextRun := by
  simp only [Detector.judge, Detector.judgedTo, h, decide_eq_true_eq]

end Judging

/-! ## ANNOUNCE at a change of state (R148, R173) -/

/-- ANNOUNCE is latched on the links whose edge mode admits it. -/
theorem link_raiseAnnounce (s : State) (start : Bool) (k : Link) :
    (s.raiseAnnounce start).link k =
      { s.link k with
        events := (s.link k).events.latchIf ((s.link k).events.announceMode.admits start) .announce none } := by
  have one (t : State) (l k : Link) := link_raiseIf t k l ((t.link l).events.announceMode.admits start) .announce none
  unfold State.raiseAnnounce State.raiseAnnounceOn
  rw [one, one, one]
  cases k <;> rfl

/-- Mode ANY admits both changes of the detector, START_ONLY the one to ACTIVE. -/
theorem startMode_admits_iff (m : StartMode) (state : DetectorState) :
    m.admits (state == .active) = true ↔ m = .any ∨ state = .active := by
  cases m <;> simp [StartMode.admits]

section Judged
variable {s : State} (h : s.detector.due = true)
include h

theorem judgeBlock_due :
    s.judgeBlock =
      if s.detector.judge.state = s.detector.state then s.setDetector s.detector.judge
      else (s.setDetector s.detector.judge).raiseAnnounce (s.detector.judge.state == .active) := by
  rw [State.judgeBlock, if_pos h]

/-- A judgement writes the detector and the links' event states. -/
theorem judgeBlock_onlyEvents : OnlyEvents (s.setDetector s.detector.judge) s.judgeBlock := by
  rw [judgeBlock_due h]
  split
  · exact OnlyEvents.refl _
  · exact OnlyEvents.raiseAnnounce _ _

/-- ANNOUNCE goes to the links that admit the change of state, and to none without a change. -/
theorem link_judgeBlock (l : Link) :
    s.judgeBlock.link l =
      if s.detector.judge.state ≠ s.detector.state ∧
          ((s.link l).events.announceMode = .any ∨ s.detector.judge.state = .active) then
        { s.link l with events := (s.link l).events.latch .announce none }
      else s.link l := by
  rw [judgeBlock_due h]
  by_cases same : s.detector.judge.state = s.detector.state
  · rw [if_pos same, if_neg fun changed => changed.1 same, State.link_setDetector]
  · rw [if_neg same, link_raiseAnnounce, State.link_setDetector, EventState.latchIf]
    simp only [startMode_admits_iff, ne_eq, same, not_false_eq_true, true_and]
    split
    · rfl
    · rfl

end Judged

/-- Settles O47: the detector by the table, and the links by the change of its state. -/
theorem blockJudgementByTheTable : Obligations.BlockJudgementByTheTable := by
  intro s hdue d loud up after
  refine ⟨s.judgeBlock, rfl, ?rest, ?detector, fun l => ?link⟩
  case rest =>
    have frame := judgeBlock_onlyEvents hdue
    unfold OnlyEvents at frame
    rw [frame]
    rfl
  case detector =>
    rw [detector_judgeBlock hdue]
    cases hstate : d.state with
    | idle => exact judge_of_idle hstate
    | active => exact judge_of_active hstate
  case link =>
    rw [detector_judgeBlock hdue]
    exact link_judgeBlock hdue l

end Sys2Proof.Machine
end

section
/-! PROOF. The parser comes to rest: every step of it leaves less to do, and so its run does not depend on the number of steps it is given (R157, R160, R162, log 29). -/

namespace Sys2Proof.Machine

/-! ## What the taking of a frame leaves of the receiver -/

/-- The receiver of a link after a frame has been taken on it: as it was, or emptied by a link reset (R162, R170). -/
structure LinkState.ReceiverKept (x y : LinkState) : Prop where
  waiting : y.parser = x.parser ∧ y.fifo = x.fifo ∨ y.parser = .initial ∧ y.fifo = []
  rate : y.rate = x.rate
  zero : y.zero = x.zero
  errors : y.errors = x.errors

/-- A change outside the receiver. -/
theorem LinkState.ReceiverKept.of_same {x y : LinkState} (hparser : y.parser = x.parser) (hfifo : y.fifo = x.fifo)
    (hrate : y.rate = x.rate) (hzero : y.zero = x.zero) (herrors : y.errors = x.errors) : x.ReceiverKept y :=
  ⟨.inl ⟨hparser, hfifo⟩, hrate, hzero, herrors⟩

/-- The taking of a frame lets no time pass and leaves the receiver of its link. -/
structure Taken (l : Link) (s t : State) : Prop where
  clock : t.clock = s.clock
  receiver : (s.link l).ReceiverKept (t.link l)

namespace Taken

variable {l : Link} {s : State}

theorem refl (l : Link) (s : State) : Taken l s s := ⟨rfl, .of_same rfl rfl rfl rfl rfl⟩

/-- A change of the link outside its receiver, and a reply to it. -/
theorem replied (s : State) (l : Link) {g : LinkState → LinkState} (body : List Byte)
    (hg : (s.link l).ReceiverKept (g (s.link l))) : Taken l s ((s.modLink l g).reply l body) := by
  refine ⟨?_, ?_⟩
  · rw [reply_eq, State.clock_setLink, State.clock_modLink]
  · rw [reply_eq, State.link_setLink_self, State.link_modLink_self]
    exact ⟨hg.waiting, hg.rate, hg.zero, hg.errors⟩

theorem reply (s : State) (l : Link) (body : List Byte) : Taken l s (s.reply l body) := by
  have unchanged := replied s l (g := id) body (.of_same rfl rfl rfl rfl rfl)
  rwa [State.modLink_eq, id, State.setLink_self] at unchanged

theorem takeEditRequest (tag : Byte) (k : EditKind) (f : List Byte) : Taken l s (s.takeEditRequest l tag k f) := by
  unfold State.takeEditRequest
  split
  · exact reply s l _
  · split
    · exact replied s l _ (.of_same rfl rfl rfl rfl rfl)
    · exact reply s l _

theorem takeQueryRequest (tag : Byte) (k : QueryKind) (f : List Byte) : Taken l s (s.takeQueryRequest l tag k f) := by
  unfold State.takeQueryRequest
  split
  · exact reply s l _
  · split
    · exact replied s l _ (.of_same rfl rfl rfl rfl rfl)
    · exact reply s l _

theorem takeSetEvents (tag : Byte) (f : List Byte) : Taken l s (s.takeSetEvents l tag f) := by
  unfold State.takeSetEvents
  split
  · exact replied s l _ (.of_same rfl rfl rfl rfl rfl)
  · exact reply s l _

theorem takeWallReset (tag : Byte) : Taken l s (s.takeWallReset l tag) := by
  unfold State.takeWallReset
  split
  · exact reply s l _
  · refine ⟨?_, ?_⟩
    · exact (State.clock_setLink _ l _).trans (wallReset_frame s).clock
    · rw [State.ack, reply_eq, State.link_setLink_self, link_wallReset]
      exact ⟨.inl ⟨rfl, rfl⟩, rfl, rfl, rfl⟩

theorem takeLinkReset (tag : Byte) : Taken l s (s.takeLinkReset l tag) := by
  cases l <;> exact ⟨rfl, .inr ⟨rfl, rfl⟩, rfl, rfl, rfl⟩

theorem takeFrame (kind tag : Byte) (f : List Byte) : Taken l s (s.takeFrame l kind tag f) := by
  unfold State.takeFrame
  split
  · next k _ =>
    unfold State.takeNamed
    split
    · cases k with
      | edit e => exact takeEditRequest tag e f
      | query q => exact takeQueryRequest tag q f
      | identify => exact reply s l _
      | takeEvents => exact replied s l _ (.of_same rfl rfl rfl rfl rfl)
      | setEvents => exact takeSetEvents tag f
      | wallReset => exact takeWallReset tag
      | linkReset => exact takeLinkReset tag
    · exact reply s l _
  · exact reply s l _

theorem takeBody (body : List Byte) : Taken l s (s.takeBody l body) := by
  unfold State.takeBody
  split
  · exact takeFrame _ _ _
  · exact refl l s
  · exact refl l s

end Taken

/-! ## One step of the parser -/

/-- The parser holds no complete frame. -/
def Phase.Open (ph : Phase) : Prop := ∀ body, ph ≠ .complete body

theorem Phase.open_of_inFrame {ph : Phase} (h : ph.inFrame = true) : ph.Open := by
  rintro body rfl
  cases h

theorem parseOnce_of_open {s : State} {l : Link} (h : (s.link l).parser.phase.Open) :
    s.parseOnce l = (s.link l).takeNext.map (s.setLink l) := by
  unfold State.parseOnce
  simp only
  split
  · next body hph => exact absurd hph (h body)
  all_goals rfl

theorem parseOnce_of_complete {s : State} {l : Link} {body : List Byte} (h : (s.link l).parser.phase = .complete body) :
    s.parseOnce l = if (s.link l).canTake then some ((s.setLink l ((s.link l).setPhase .hunt)).takeBody l body) else none := by
  unfold State.parseOnce
  simp only [h]

/-- A step of the parser takes a byte or a cut, or the complete frame. -/
theorem parseOnce_cases {s t : State} {l : Link} (h : s.parseOnce l = some t) :
    ((s.link l).parser.phase.Open ∧ ∃ y, (s.link l).takeNext = some y ∧ t = s.setLink l y) ∨
      ∃ body, (s.link l).parser.phase = .complete body ∧
        t = (s.setLink l ((s.link l).setPhase .hunt)).takeBody l body := by
  by_cases hopen : (s.link l).parser.phase.Open
  · rw [parseOnce_of_open hopen] at h
    obtain ⟨y, hy, rfl⟩ := Option.map_eq_some_iff.mp h
    exact .inl ⟨hopen, y, hy, rfl⟩
  · obtain ⟨body, hbody⟩ : ∃ body, (s.link l).parser.phase = .complete body := by
      simpa [Phase.Open] using hopen
    rw [parseOnce_of_complete hbody] at h
    obtain ⟨-, h⟩ := Option.ite_none_right_eq_some.mp h
    exact .inr ⟨body, hbody, (Option.some.inj h).symm⟩

/-! ## Every step leaves less to do -/

/-- Bytes and cuts still to be taken. -/
def LinkState.waiting (x : LinkState) : Nat := x.parser.rescan.length + x.fifo.length

/-- A bound on the steps the parser has before it: a discarded frame costs it a byte, and between two of them each byte is taken once (log 29). -/
def LinkState.work (x : LinkState) : Nat := x.outstanding * (x.outstanding + 1) + x.waiting

theorem outstanding_eq (x : LinkState) : x.outstanding = x.parser.phase.held + x.waiting := Nat.add_assoc _ _ _

theorem held_huntByte (x : LinkState) (b : Byte) (h : x.parser.phase = .hunt) :
    (x.huntByte b).waiting = x.waiting ∧ (x.huntByte b).parser.phase.held ≤ 1 := by
  unfold LinkState.huntByte
  split
  · exact ⟨rfl, Nat.le_refl 1⟩
  · exact ⟨rfl, by rw [h]; exact Nat.zero_le 1⟩

theorem held_pos_of_inFrame {ph : Phase} (h : ph.inFrame = true) : 1 ≤ ph.held := by
  cases ph with
  | hunt | complete body => cases h
  | length => exact Nat.le_refl 1
  | body len got sum | check len got sum => exact Nat.le_add_left 1 (got.length + 1)

/-- A byte taken is dropped, is kept with the frame in assembly, or sends the frame's bytes but its sync to the rescan. -/
theorem outstanding_takeByte (x : LinkState) (b : Byte) (late : Bool) :
    (x.takeByte b late).outstanding ≤ x.outstanding ∨
      (x.takeByte b late).outstanding = x.outstanding + 1 ∧ (x.takeByte b late).waiting = x.waiting := by
  simp only [outstanding_eq]
  unfold LinkState.takeByte
  split
  · next hlate =>
    have held := held_pos_of_inFrame (Bool.and_eq_true_iff.mp hlate).2
    have hunted : x.abandonForGap.waiting = x.waiting := rfl
    have taken := held_huntByte x.abandonForGap b rfl
    omega
  · split
    · next hph =>
      have taken := held_huntByte x b hph
      have none : x.parser.phase.held = 0 := by rw [hph]; rfl
      omega
    · next hph =>
      unfold LinkState.lengthByte
      split
      · exact .inr ⟨by rw [hph]; exact Nat.add_right_comm 1 1 _, rfl⟩
      · exact .inl (by rw [hph]; exact Nat.add_le_add_right (Nat.zero_le 1) _)
    · next len got sum hph =>
      unfold LinkState.bodyByte
      split <;>
      · refine .inr ⟨?_, rfl⟩
        simp only [hph, LinkState.setPhase, LinkState.waiting, Phase.held, List.length_append, List.length_singleton]
        omega
    · next len got sum hph =>
      unfold LinkState.checkByte
      split
      · exact .inl (by rw [hph]; exact Nat.le_refl _)
      · refine .inl ?_
        simp only [hph, LinkState.waiting, Phase.held, List.length_append, List.length_cons]
        omega
    · exact .inl (Nat.le_refl _)

theorem outstanding_takeCut (x : LinkState) : x.takeCut.outstanding ≤ x.outstanding := by
  unfold LinkState.takeCut
  split
  · simp only [LinkState.outstanding, LinkState.setPhase, Phase.held]
    omega
  · exact Nat.le_refl _

/-- A byte or cut taken lowers what is outstanding, or moves from what waits to the frame in assembly. -/
theorem outstanding_takeNext {x y : LinkState} (h : x.takeNext = some y) :
    y.outstanding < x.outstanding ∨ y.outstanding = x.outstanding ∧ y.waiting < x.waiting := by
  unfold LinkState.takeNext at h
  simp only [outstanding_eq x]
  split at h
  · next b rest hrescan =>
    cases h
    have taken := outstanding_takeByte { x with parser := { x.parser with rescan := rest } } b false
    simp only [outstanding_eq { x with parser := { x.parser with rescan := rest } }] at taken
    simp only [LinkState.waiting, hrescan, List.length_cons] at taken ⊢
    omega
  · next b late rest hrescan hfifo =>
    cases h
    have taken := outstanding_takeByte { x with fifo := rest } b late
    simp only [outstanding_eq { x with fifo := rest }] at taken
    simp only [LinkState.waiting, hrescan, hfifo, List.length_cons] at taken ⊢
    omega
  · next rest hrescan hfifo =>
    cases h
    have taken := outstanding_takeCut { x with fifo := rest }
    simp only [outstanding_eq { x with fifo := rest }] at taken
    simp only [LinkState.waiting, hrescan, hfifo, List.length_cons] at taken ⊢
    omega
  · cases h

theorem work_lt_of_outstanding_lt {x y : LinkState} (h : y.outstanding < x.outstanding) : y.work < x.work := by
  have waits : y.waiting ≤ y.outstanding := by rw [outstanding_eq]; exact Nat.le_add_left _ _
  calc y.work ≤ y.outstanding * (y.outstanding + 1) + y.outstanding := Nat.add_le_add_left waits _
    _ < (y.outstanding + 1) * (y.outstanding + 2) := by ring_nf; omega
    _ ≤ x.outstanding * (x.outstanding + 1) := Nat.mul_le_mul h (Nat.succ_le_succ h)
    _ ≤ x.work := Nat.le_add_right _ _

/-- Every step of the parser leaves less to do. -/
theorem work_parseOnce {s t : State} {l : Link} (h : s.parseOnce l = some t) : (t.link l).work < (s.link l).work := by
  obtain ⟨-, y, hy, rfl⟩ | ⟨body, hbody, rfl⟩ := parseOnce_cases h
  · rw [State.link_setLink_self]
    obtain less | ⟨same, less⟩ := outstanding_takeNext hy
    · exact work_lt_of_outstanding_lt less
    · unfold LinkState.work
      rw [same]
      exact Nat.add_lt_add_left less _
  · refine work_lt_of_outstanding_lt ?_
    have taken := (Taken.takeBody (l := l) (s := s.setLink l ((s.link l).setPhase .hunt)) body).receiver.waiting
    rw [State.link_setLink_self] at taken
    unfold LinkState.outstanding
    rw [hbody]
    obtain ⟨hparser, hfifo⟩ | ⟨hparser, hfifo⟩ := taken
    · rw [hparser, hfifo]
      simp only [LinkState.setPhase, Phase.held]
      omega
    · rw [hparser, hfifo]
      simp only [Parser.initial, Phase.held, List.length_nil]
      omega

/-! ## The run of the parser -/

section Run
variable {s t : State} {l : Link}

theorem parseFor_succ (n : Nat) (h : s.parseOnce l = some t) : State.parseFor l (n + 1) s = State.parseFor l n t := by
  simp only [State.parseFor, h]

theorem parseFor_at_rest (n : Nat) (h : s.parseOnce l = none) : State.parseFor l n s = s := by
  cases n with
  | zero => rfl
  | succ n => simp only [State.parseFor, h]

/-- With steps enough for what there is to do, the parser comes to rest. -/
theorem parseOnce_parseFor {n : Nat} (h : (s.link l).work ≤ n) : (State.parseFor l n s).parseOnce l = none := by
  induction n generalizing s with
  | zero =>
    cases hs : s.parseOnce l with
    | none => exact hs
    | some t => exact absurd (work_parseOnce hs) (by omega)
  | succ n ih =>
    cases hs : s.parseOnce l with
    | none => rwa [parseFor_at_rest _ hs]
    | some t =>
      rw [parseFor_succ n hs]
      exact ih (by have := work_parseOnce hs; omega)

/-- More steps than enough change nothing. -/
theorem parseFor_eq_of_enough {n m : Nat} (hn : (s.link l).work ≤ n) (hm : n ≤ m) :
    State.parseFor l m s = State.parseFor l n s := by
  induction n generalizing s m with
  | zero => exact parseFor_at_rest m (parseOnce_parseFor hn)
  | succ n ih =>
    cases hs : s.parseOnce l with
    | none => rw [parseFor_at_rest _ hs, parseFor_at_rest _ hs]
    | some t =>
      obtain ⟨m, rfl⟩ : ∃ k, m = k + 1 := ⟨m - 1, by omega⟩
      rw [parseFor_succ n hs, parseFor_succ m hs]
      exact ih (by have := work_parseOnce hs; omega) (by omega)

/-- The model gives the parser enough steps (log 29). -/
theorem work_lt_parseSteps (x : LinkState) : x.work < x.parseSteps := by
  have waits : x.waiting ≤ x.outstanding := by rw [outstanding_eq]; exact Nat.le_add_left _ _
  calc x.work ≤ x.outstanding * (x.outstanding + 1) + x.outstanding := Nat.add_le_add_left waits _
    _ < x.parseSteps := by unfold LinkState.parseSteps; ring_nf; omega

/-- The parser's run goes on from the state after its next step. -/
theorem parse_step (h : s.parseOnce l = some t) : s.parse l = t.parse l := by
  unfold State.parse
  have less := work_parseOnce h
  have enough := work_lt_parseSteps (s.link l)
  obtain ⟨n, hn⟩ : ∃ n, (s.link l).parseSteps = n + 1 := ⟨(s.link l).parseSteps - 1, by omega⟩
  have run : State.parseFor l n t = State.parseFor l (t.link l).work t := parseFor_eq_of_enough (Nat.le_refl _) (by omega)
  rw [hn, parseFor_succ n h, run, parseFor_eq_of_enough (Nat.le_refl _) (work_lt_parseSteps (t.link l)).le]

/-- A parser that can take nothing looks at its gap alone. -/
theorem parse_at_rest (h : s.parseOnce l = none) : s.parse l = s.settleGap l := by
  rw [State.parse, parseFor_at_rest _ h]

theorem settleGap_of_not_inFrame (h : (s.link l).parser.phase.inFrame = false) : s.settleGap l = s := by
  simp [State.settleGap, h]

theorem settleGap_of_not_passed (h : s.gapPassed l = false) : s.settleGap l = s := by
  simp [State.settleGap, h]

/-- A frame abandoned for its gap leaves nothing to take. -/
theorem parseOnce_settleGap (h : s.parseOnce l = none) : (s.settleGap l).parseOnce l = none := by
  unfold State.settleGap
  simp only
  split
  · next hgap =>
    simp only [Bool.and_eq_true, List.isEmpty_iff] at hgap
    obtain ⟨⟨⟨-, hrescan⟩, hfifo⟩, -⟩ := hgap
    rw [parseOnce_of_open (by rw [State.link_setLink_self]; exact nofun), State.link_setLink_self]
    simp [LinkState.takeNext, LinkState.abandonForGap, LinkState.setPhase, hrescan, hfifo]
  · exact h

/-- After its run the parser can take nothing (R162). -/
theorem parseOnce_parse (s : State) (l : Link) : (s.parse l).parseOnce l = none :=
  parseOnce_settleGap (parseOnce_parseFor (work_lt_parseSteps _).le)

end Run

/-- Settles O32: both events end with a run of the parser, which has steps enough for all there is to do. -/
theorem parserComesToRest : Obligations.ParserComesToRest := by
  refine fun s t l => ⟨fun wait b stop h => ?_, fun hsending h => ?_⟩
  · cases h
    exact parseOnce_parse _ l
  · simp only [exec, execTransmissionEnd, hsending, if_false] at h
    cases h
    exact parseOnce_parse _ l

end Sys2Proof.Machine
end

section
/-! PROOF. What a parser with nothing waiting does with one byte, one cut or a complete frame, and one character on a line (R157 to R162, R168). -/

namespace Sys2Proof.Machine

/-! ## The passing of time, which leaves all of a link but its transmitter and its events -/

namespace State

section Fields
variable (n : Nat) (s : State) (l : Link)
theorem rate_link_elapse : ((s.elapse n).link l).rate = (s.link l).rate := by rw [link_elapse]; rfl
theorem fifo_link_elapse : ((s.elapse n).link l).fifo = (s.link l).fifo := by rw [link_elapse]; rfl
theorem parser_link_elapse : ((s.elapse n).link l).parser = (s.link l).parser := by rw [link_elapse]; rfl
theorem lastArrival_link_elapse : ((s.elapse n).link l).lastArrival = (s.link l).lastArrival := by rw [link_elapse]; rfl
theorem query_link_elapse : ((s.elapse n).link l).query = (s.link l).query := by rw [link_elapse]; rfl
theorem replies_link_elapse : ((s.elapse n).link l).replies = (s.link l).replies := by rw [link_elapse]; rfl
theorem errors_link_elapse : ((s.elapse n).link l).errors = (s.link l).errors := by rw [link_elapse]; rfl
theorem txLeft_link_elapse : ((s.elapse n).link l).txLeft = (s.link l).txLeft - 16 * n := by rw [link_elapse]; rfl
end Fields

end State

/-! ## A parser with nothing waiting -/

/-- The parser is in a phase, and neither FIFO nor rescan holds a thing for it. -/
structure LinkState.IdleIn (x : LinkState) (ph : Phase) : Prop where
  parser : x.parser = { phase := ph, rescan := [] }
  fifo : x.fifo = []

theorem LinkState.idleIn_iff {x : LinkState} {ph : Phase} :
    x.IdleIn ph ↔ x.parser.phase = ph ∧ x.parser.rescan = [] ∧ x.fifo = [] := by
  constructor
  · rintro ⟨parser, fifo⟩
    rw [parser]
    exact ⟨rfl, rfl, fifo⟩
  · rintro ⟨rfl, rescan, fifo⟩
    exact ⟨rescan ▸ rfl, fifo⟩

/-- A character that arrives finds the parser as it is. -/
theorem LinkState.IdleIn.arrived {x : LinkState} {ph : Phase} (h : x.IdleIn ph) (clock : Nat) : (x.arrived clock).IdleIn ph :=
  ⟨h.parser, h.fifo⟩

theorem LinkState.IdleIn.elapse {s : State} {l : Link} {ph : Phase} (h : (s.link l).IdleIn ph) (n : Nat) :
    ((s.elapse n).link l).IdleIn ph :=
  ⟨(State.parser_link_elapse n s l).trans h.parser, (State.fifo_link_elapse n s l).trans h.fifo⟩

theorem quiet_iff {x : LinkState} : x.quiet = true ↔ x.IdleIn .hunt := by
  simp only [LinkState.quiet, Bool.and_eq_true, beq_iff_eq, List.isEmpty_iff]
  exact ⟨fun ⟨parser, fifo⟩ => ⟨parser, fifo⟩, fun ⟨parser, fifo⟩ => ⟨parser, fifo⟩⟩

/-- The link after a character that its parser has taken, going on to a phase with nothing waiting (R159). -/
def LinkState.heardIn (x : LinkState) (clock : Nat) (ph : Phase) : LinkState :=
  { x.arrived clock with parser := { phase := ph, rescan := [] } }

/-- The link at a bad check, which has been counted (R160, R168). -/
def LinkState.checkFailed (x : LinkState) (clock : Nat) : LinkState :=
  { x.arrived clock with errors := { x.errors with badCheck := errorUp x.errors.badCheck } }

def State.heardIn (s : State) (l : Link) (ph : Phase) : State := s.setLink l ((s.link l).heardIn s.clock ph)

theorem State.link_heardIn (s : State) (l : Link) (ph : Phase) : (s.heardIn l ph).link l = (s.link l).heardIn s.clock ph :=
  State.link_setLink_self s l _

/-- Of two characters at one moment the later one's phase stands. -/
theorem State.heardIn_heardIn (s : State) (l : Link) (ph ph' : Phase) :
    (s.heardIn l ph).heardIn l ph' = s.heardIn l ph' := by
  simp only [State.heardIn, State.link_setLink_self, State.setLink_setLink, State.clock_setLink]
  rfl

/-! ## One byte (R159 to R161) -/

section Byte
variable {x : LinkState} {b : Byte}

theorem takeByte_hunt {late : Bool} {rest : List Byte} (h : x.parser = { phase := .hunt, rescan := rest }) :
    x.takeByte b late = { x with parser := { phase := if b = 0x7E then .length else .hunt, rescan := rest } } := by
  simp only [LinkState.takeByte, h, Phase.inFrame, Bool.and_false, Bool.false_eq_true, if_false, LinkState.huntByte,
    LinkState.setPhase]
  split
  · rfl
  · rw [← h]

theorem takeByte_length (h : x.parser = { phase := .length, rescan := [] }) :
    x.takeByte b false =
      if 2 ≤ b.toNat ∧ b.toNat ≤ 128 then { x with parser := { phase := .body b.toNat [] b, rescan := [] } }
      else
        { x with
          parser := { phase := .hunt, rescan := [] }, errors := { x.errors with length := errorUp x.errors.length } } := by
  simp [LinkState.takeByte, h, LinkState.lengthByte, LinkState.setPhase]

theorem takeByte_body {len : Nat} {got : List Byte} {sum : Byte}
    (h : x.parser = { phase := .body len got sum, rescan := [] }) :
    x.takeByte b false =
      { x with
        parser :=
          { phase := if got.length + 1 < len then .body len (got ++ [b]) (sum + b) else .check len (got ++ [b]) (sum + b)
            rescan := [] } } := by
  simp only [LinkState.takeByte, h, Bool.false_and, Bool.false_eq_true, if_false, LinkState.bodyByte, LinkState.setPhase]
  split <;> rfl

theorem takeByte_goodCheck {len : Nat} {got : List Byte} {sum : Byte}
    (h : x.parser = { phase := .check len got sum, rescan := [] }) (hsum : sum + b = 0) :
    x.takeByte b false = { x with parser := { phase := .complete got, rescan := [] } } := by
  simp [LinkState.takeByte, h, LinkState.checkByte, LinkState.setPhase, hsum]

theorem takeByte_badCheck {len : Nat} {got : List Byte} {sum : Byte}
    (h : x.parser = { phase := .check len got sum, rescan := [] }) (hsum : sum + b ≠ 0) :
    x.takeByte b false =
      { x with
        parser := { phase := .hunt, rescan := BitVec.ofNat 8 len :: (got ++ [b]) }
        errors := { x.errors with badCheck := errorUp x.errors.badCheck } } := by
  simp only [LinkState.takeByte, h, Bool.false_and, Bool.false_eq_true, if_false, LinkState.checkByte]
  exact if_neg hsum

/-- A late byte abandons the frame in assembly and is taken in HUNT (R161). -/
theorem takeByte_late {ph : Phase} (h : x.parser = { phase := ph, rescan := [] }) (hph : ph.inFrame = true) :
    x.takeByte b true =
      { x with
        parser := { phase := if b = 0x7E then .length else .hunt, rescan := [] }
        errors := { x.errors with timeout := errorUp x.errors.timeout } } := by
  simp only [LinkState.takeByte, h, hph, Bool.and_self, if_true, LinkState.huntByte, LinkState.abandonForGap, LinkState.setPhase]
  split <;> rfl

/-- A cut leaves the parser in HUNT, whatever it was assembling (R157). -/
theorem takeCut_open {ph : Phase} (h : x.parser = { phase := ph, rescan := [] }) (hopen : ph.Open) :
    x.takeCut = { x with parser := { phase := .hunt, rescan := [] } } := by
  simp only [LinkState.takeCut, h, LinkState.setPhase]
  cases ph with
  | hunt => simp [Phase.inFrame, ← h]
  | complete body => exact absurd rfl (hopen body)
  | length | body | check => rfl

end Byte

/-! ## A parser with nothing left to take -/

theorem gapPassed_now {s : State} {l : Link} (h : (s.link l).lastArrival = some s.clock) : s.gapPassed l = false := by
  have pos : 0 < gapLimit (s.link l).rate := by cases (s.link l).rate <;> decide
  simp only [State.gapPassed, h, decide_eq_false_iff_not]
  omega

section AtRest
variable {s : State} {l : Link}

/-- With nothing waiting, and no gap that could be over, the parser leaves its link alone. -/
theorem parse_idle {ph : Phase} (h : (s.link l).IdleIn ph) (hopen : ph.Open)
    (hgap : ph.inFrame = false ∨ (s.link l).lastArrival = some s.clock) : s.parse l = s := by
  have rest : s.parseOnce l = none := by
    rw [parseOnce_of_open (by rw [h.parser]; exact hopen)]
    simp [LinkState.takeNext, h.parser, h.fifo]
  rw [parse_at_rest rest]
  obtain notInFrame | now := hgap
  · exact settleGap_of_not_inFrame (by rw [h.parser]; exact notInFrame)
  · exact settleGap_of_not_passed (gapPassed_now now)

theorem canTake_of_room (hroom : (s.link l).replies.length < 4) (hquery : ∀ r, (s.link l).query ≠ .answered r) :
    (s.link l).canTake = true := by
  rw [LinkState.canTake, Bool.and_eq_true]
  refine ⟨decide_eq_true hroom, ?_⟩
  split
  · next r h => exact absurd h (hquery r)
  all_goals rfl

/-- A complete frame behind four replies is held, and what waits behind it stays (R162). -/
theorem parse_held {body : List Byte} (h : (s.link l).parser.phase = .complete body) (hfull : 4 ≤ (s.link l).replies.length) :
    s.parse l = s := by
  have full : (s.link l).canTake = false := by
    rw [LinkState.canTake, Bool.and_eq_false_iff]
    exact .inl (decide_eq_false (Nat.not_lt.mpr hfull))
  rw [parse_at_rest (by simp [parseOnce_of_complete h, full]), settleGap_of_not_inFrame (by rw [h]; rfl)]

/-- A complete frame that can be taken is taken, and with nothing waiting behind it that is all (R162). -/
theorem parse_takes {body : List Byte} (h : (s.link l).IdleIn (.complete body)) (hcan : (s.link l).canTake = true) :
    s.parse l = (s.setLink l { s.link l with parser := { phase := .hunt, rescan := [] } }).takeBody l body := by
  have hunting : (s.link l).setPhase .hunt = { s.link l with parser := { phase := .hunt, rescan := [] } } := by
    rw [LinkState.setPhase, h.parser]
  have step : s.parseOnce l =
      some ((s.setLink l { s.link l with parser := { phase := .hunt, rescan := [] } }).takeBody l body) := by
    rw [parseOnce_of_complete (by rw [h.parser]), hcan, hunting]
    rfl
  have taken := (Taken.takeBody (l := l) (s := s.setLink l { s.link l with parser := { phase := .hunt, rescan := [] } })
    body).receiver.waiting
  rw [State.link_setLink_self] at taken
  rw [parse_step step]
  refine parse_idle (ph := .hunt) ?_ nofun (.inl rfl)
  obtain ⟨parser, fifo⟩ | ⟨parser, fifo⟩ := taken
  · exact ⟨parser, fifo.trans h.fifo⟩
  · exact ⟨parser, fifo⟩

end AtRest

/-! ## One character (R157, R158) -/

/-- A character with a one stop bit is late after more than 20 character times. -/
theorem isLate_iff (x : LinkState) (clock : Nat) :
    x.isLate clock = true ↔ ∃ last, x.lastArrival = some last ∧ last + gapLimit x.rate < clock := by
  unfold LinkState.isLate
  split
  · next h => simp [h]
  · next h => simp [h]

theorem receiveByte_room {x : LinkState} (clock : Nat) (b : Byte) (h : fifoLevel x.fifo < 32) :
    x.receiveByte clock b = { x.arrived clock with fifo := x.fifo ++ [.byte b (x.isLate clock)] } := if_pos h

theorem receiveByte_full {x : LinkState} (clock : Nat) (b : Byte) (h : fifoLevel x.fifo = 32) :
    x.receiveByte clock b =
      { x.arrived clock with
        fifo := addCut x.fifo, errors := { x.errors with overrun := errorUp x.errors.overrun } } :=
  if_neg (h ▸ Nat.lt_irrefl 32)

theorem parser_receive (x : LinkState) (clock : Nat) (b : Byte) (stop : Bool) : (x.receive clock b stop).parser = x.parser := by
  unfold LinkState.receive LinkState.receiveByte
  split
  · split <;> rfl
  · rfl

theorem replies_receive (x : LinkState) (clock : Nat) (b : Byte) (stop : Bool) :
    (x.receive clock b stop).replies = x.replies := by
  unfold LinkState.receive LinkState.receiveByte
  split
  · split <;> rfl
  · rfl

section Arrival
variable {s : State} {l : Link} {ph : Phase} {b : Byte}

/-- With nothing waiting before it a byte is taken in the event of its arrival. -/
theorem arrive_byte (h : (s.link l).IdleIn ph) (hopen : ph.Open) :
    s.arrive l b true =
      (s.setLink l (((s.link l).arrived s.clock).takeByte b ((s.link l).isLate s.clock))).parse l := by
  have received : (s.link l).receiveByte s.clock b =
      { (s.link l).arrived s.clock with fifo := [.byte b ((s.link l).isLate s.clock)] } := by
    simp [LinkState.receiveByte, h.fifo, fifoLevel, Config.fifoBytes, LinkState.arrived]
  have emptied : { (s.link l).arrived s.clock with fifo := [] } = (s.link l).arrived s.clock := by
    rw [← h.fifo]
    rfl
  have once : (s.setLink l ((s.link l).receiveByte s.clock b)).parseOnce l =
      some (s.setLink l (((s.link l).arrived s.clock).takeByte b ((s.link l).isLate s.clock))) := by
    have parser : ((s.link l).arrived s.clock).parser = { phase := ph, rescan := [] } := h.parser
    rw [parseOnce_of_open (by rw [State.link_setLink_self, received, parser]; exact hopen), State.link_setLink_self, received]
    simp only [LinkState.takeNext, parser, Option.map_some, State.setLink_setLink]
    rw [← parser, emptied]
  exact parse_step once

/-- A byte that leaves the parser with nothing to take leaves it so. -/
theorem arrive_byte_settles {y : LinkState} {ph' : Phase} (h : (s.link l).IdleIn ph) (hopen : ph.Open)
    (hy : ((s.link l).arrived s.clock).takeByte b ((s.link l).isLate s.clock) = y) (hidle : y.IdleIn ph') (hopen' : ph'.Open)
    (hlast : y.lastArrival = some s.clock) : s.arrive l b true = s.setLink l y := by
  rw [arrive_byte h hopen, hy]
  refine parse_idle (ph := ph') (by rwa [State.link_setLink_self]) hopen' (.inr ?_)
  rw [State.link_setLink_self, State.clock_setLink, hlast]

/-- A character with a zero stop bit counts a framing error and abandons the frame in assembly (R158). -/
theorem arrive_framingError (h : (s.link l).IdleIn ph) (hopen : ph.Open) :
    s.arrive l b false =
      s.setLink l
        { (s.link l).heardIn s.clock .hunt with
          zero := .framed (s.clock - zeroPeriods (s.link l).rate b)
          errors := { (s.link l).errors with framing := errorUp (s.link l).errors.framing } } := by
  have received : (s.link l).receiveFramingError s.clock b =
      { (s.link l).receiveFramingError s.clock b with parser := { phase := ph, rescan := [] }, fifo := [.cut] } := by
    simp [LinkState.receiveFramingError, h.fifo, addCut, h.parser]
  have once : (s.setLink l ((s.link l).receiveFramingError s.clock b)).parseOnce l = some (s.setLink l
        { (s.link l).heardIn s.clock .hunt with
          zero := .framed (s.clock - zeroPeriods (s.link l).rate b)
          errors := { (s.link l).errors with framing := errorUp (s.link l).errors.framing } }) := by
    rw [received, parseOnce_of_open (by rw [State.link_setLink_self]; exact hopen), State.link_setLink_self]
    simp only [LinkState.takeNext, Option.map_some, State.setLink_setLink]
    rw [takeCut_open (ph := ph) rfl hopen]
    simp [LinkState.receiveFramingError, LinkState.heardIn, LinkState.arrived, h.fifo]
  refine (parse_step once).trans (parse_idle (ph := .hunt) ?_ nofun (.inl rfl))
  rw [State.link_setLink_self]
  exact ⟨rfl, h.fifo⟩

theorem arrive_hunt (h : (s.link l).IdleIn .hunt) :
    s.arrive l b true = s.heardIn l (if b = 0x7E then .length else .hunt) := by
  refine arrive_byte_settles h nofun (takeByte_hunt (h.arrived _).parser) ⟨rfl, h.fifo⟩ ?_ rfl
  split
  · exact nofun
  · exact nofun

section InTime
variable (hlate : (s.link l).isLate s.clock = false)
include hlate

theorem arrive_length (h : (s.link l).IdleIn .length) (hlen : 2 ≤ b.toNat ∧ b.toNat ≤ 128) :
    s.arrive l b true = s.heardIn l (.body b.toNat [] b) := by
  refine arrive_byte_settles h nofun ?_ ⟨rfl, h.fifo⟩ nofun rfl
  rw [hlate, takeByte_length (h.arrived _).parser, if_pos hlen]
  rfl

theorem arrive_badLength (h : (s.link l).IdleIn .length) (hlen : ¬ (2 ≤ b.toNat ∧ b.toNat ≤ 128)) :
    s.arrive l b true =
      s.setLink l
        { (s.link l).heardIn s.clock .hunt with
          errors := { (s.link l).errors with length := errorUp (s.link l).errors.length } } := by
  refine arrive_byte_settles (ph' := .hunt) h nofun ?_ ⟨rfl, h.fifo⟩ nofun rfl
  rw [hlate, takeByte_length (h.arrived _).parser, if_neg hlen]
  rfl

variable {len : Nat} {got : List Byte} {sum : Byte}

theorem arrive_body (h : (s.link l).IdleIn (.body len got sum)) :
    s.arrive l b true =
      s.heardIn l
        (if got.length + 1 < len then .body len (got ++ [b]) (sum + b) else .check len (got ++ [b]) (sum + b)) := by
  refine arrive_byte_settles h nofun ?_ ⟨rfl, h.fifo⟩ ?_ rfl
  · rw [hlate, takeByte_body (h.arrived _).parser]
    rfl
  · split
    · exact nofun
    · exact nofun

theorem arrive_goodCheck (h : (s.link l).IdleIn (.check len got sum)) (hsum : sum + b = 0) :
    s.arrive l b true = (s.heardIn l (.complete got)).parse l := by
  rw [arrive_byte h nofun, hlate, takeByte_goodCheck (h.arrived _).parser hsum]
  rfl

/-- A frame that completes is taken at once while a reply place is free and no RESULT waits for one (R162). -/
theorem arrive_goodCheck_taken (h : (s.link l).IdleIn (.check len got sum)) (hsum : sum + b = 0)
    (hroom : (s.link l).replies.length < 4) (hquery : ∀ r, (s.link l).query ≠ .answered r) :
    s.arrive l b true = (s.heardIn l .hunt).takeBody l got := by
  rw [arrive_goodCheck hlate h hsum, parse_takes (body := got)]
  · rw [State.link_heardIn, State.heardIn, State.setLink_setLink]
    rfl
  · rw [State.link_heardIn]
    exact ⟨rfl, h.fifo⟩
  · refine canTake_of_room ?_ ?_
    · rw [State.link_heardIn]
      exact hroom
    · rw [State.link_heardIn]
      exact hquery

/-- Behind four replies a frame that completes is held (R162). -/
theorem arrive_goodCheck_held (h : (s.link l).IdleIn (.check len got sum)) (hsum : sum + b = 0)
    (hfull : 4 ≤ (s.link l).replies.length) : s.arrive l b true = s.heardIn l (.complete got) := by
  rw [arrive_goodCheck hlate h hsum, parse_held (body := got)]
  · rw [State.link_heardIn]
    rfl
  · rw [State.link_heardIn]
    exact hfull

/-- A bad check sends the frame's bytes but its sync to the rescan (R160). -/
theorem arrive_badCheck (h : (s.link l).IdleIn (.check len got sum)) (hsum : sum + b ≠ 0) :
    s.arrive l b true =
      (s.setLink l
        { (s.link l).checkFailed s.clock with
          parser := { phase := .hunt, rescan := BitVec.ofNat 8 len :: (got ++ [b]) } }).parse l := by
  rw [arrive_byte h nofun, hlate, takeByte_badCheck (h.arrived _).parser hsum]
  rfl

end InTime

/-- A late byte abandons the frame in assembly, and can begin the next one (R161). -/
theorem arrive_late (hlate : (s.link l).isLate s.clock = true) (h : (s.link l).IdleIn ph) (hph : ph.inFrame = true) :
    s.arrive l b true =
      s.setLink l
        { (s.link l).heardIn s.clock (if b = 0x7E then .length else .hunt) with
          errors := { (s.link l).errors with timeout := errorUp (s.link l).errors.timeout } } := by
  refine arrive_byte_settles h (Phase.open_of_inFrame hph) ?_ ⟨rfl, h.fifo⟩ ?_ rfl
  · rw [hlate, takeByte_late (h.arrived _).parser hph]
    rfl
  · split
    · exact nofun
    · exact nofun

/-! ### Behind a held frame -/

section Held
variable {body : List Byte} (h : (s.link l).parser.phase = .complete body) (hfull : 4 ≤ (s.link l).replies.length)
include h hfull

/-- What arrives behind a held frame waits for it, or is lost. -/
theorem arrive_behind_held (stop : Bool) : s.arrive l b stop = s.setLink l ((s.link l).receive s.clock b stop) := by
  refine parse_held (body := body) ?_ ?_
  · rw [State.link_modLink_self, parser_receive]
    exact h
  · rw [State.link_modLink_self, replies_receive]
    exact hfull

theorem arrive_behind_held_room (hroom : fifoLevel (s.link l).fifo < 32) :
    s.arrive l b true =
      s.setLink l
        { (s.link l).arrived s.clock with fifo := (s.link l).fifo ++ [.byte b ((s.link l).isLate s.clock)] } := by
  rw [arrive_behind_held h hfull, ← receiveByte_room s.clock b hroom]
  rfl

theorem arrive_behind_held_overrun (hlevel : fifoLevel (s.link l).fifo = 32) :
    s.arrive l b true =
      s.setLink l
        { (s.link l).arrived s.clock with
          fifo := addCut (s.link l).fifo
          errors := { (s.link l).errors with overrun := errorUp (s.link l).errors.overrun } } := by
  rw [arrive_behind_held h hfull, ← receiveByte_full s.clock b hlevel]
  rfl

theorem arrive_behind_held_framingError :
    s.arrive l b false =
      s.setLink l
        { (s.link l).arrived s.clock with
          fifo := addCut (s.link l).fifo, zero := .framed (s.clock - zeroPeriods (s.link l).rate b)
          errors := { (s.link l).errors with framing := errorUp (s.link l).errors.framing } } := by
  rw [arrive_behind_held h hfull]
  rfl

end Held

end Arrival

/-! ## The rescan (R160) -/

section Rescan
variable {s : State} {l : Link} {x : LinkState}

/-- The next byte of the rescan is taken in HUNT. -/
theorem parse_rescan (b : Byte) (rest : List Byte) :
    (s.setLink l { x with parser := { phase := .hunt, rescan := b :: rest } }).parse l =
      (s.setLink l { x with parser := { phase := if b = 0x7E then .length else .hunt, rescan := rest } }).parse l := by
  refine parse_step ?_
  rw [parseOnce_of_open (by rw [State.link_setLink_self]; exact nofun), State.link_setLink_self]
  simp only [LinkState.takeNext, Option.map_some, State.setLink_setLink]
  rw [takeByte_hunt rfl]

/-- The bytes before the next sync are discarded. -/
theorem parse_discards {before rest : List Byte} (h : 0x7E ∉ before) :
    (s.setLink l { x with parser := { phase := .hunt, rescan := before ++ rest } }).parse l =
      (s.setLink l { x with parser := { phase := .hunt, rescan := rest } }).parse l := by
  induction before with
  | nil => rfl
  | cons b before ih =>
    obtain ⟨hb, hbefore⟩ := not_or.mp (List.mem_cons.not.mp h)
    rw [← ih hbefore, List.cons_append, parse_rescan, if_neg (Ne.symm hb)]

/-- The next sync of the rescan begins a frame. -/
theorem parse_to_sync {before after : List Byte} (h : 0x7E ∉ before) :
    (s.setLink l { x with parser := { phase := .hunt, rescan := before ++ 0x7E :: after } }).parse l =
      (s.setLink l { x with parser := { phase := .length, rescan := after } }).parse l := by
  rw [parse_discards h, parse_rescan, if_pos rfl]

/-- A rescan without a sync is discarded. -/
theorem parse_no_sync {bytes : List Byte} (h : 0x7E ∉ bytes) (hfifo : x.fifo = []) :
    (s.setLink l { x with parser := { phase := .hunt, rescan := bytes } }).parse l =
      s.setLink l { x with parser := { phase := .hunt, rescan := [] } } := by
  have discarded := parse_discards (s := s) (l := l) (x := x) (rest := []) h
  rw [List.append_nil] at discarded
  rw [discarded]
  refine parse_idle (ph := .hunt) ?_ nofun (.inl rfl)
  rw [State.link_setLink_self]
  exact ⟨rfl, hfifo⟩

end Rescan

section BadCheck
variable {s : State} {l : Link} {b : Byte} {len : Nat} {got : List Byte} {sum : Byte}
  (hlate : (s.link l).isLate s.clock = false) (h : (s.link l).IdleIn (.check len got sum)) (hsum : sum + b ≠ 0)
include hlate h hsum

/-- A discarded frame without another sync is lost whole. -/
theorem arrive_badCheck_lost (hnone : 0x7E ∉ BitVec.ofNat 8 len :: (got ++ [b])) :
    s.arrive l b true =
      s.setLink l { (s.link l).checkFailed s.clock with parser := { phase := .hunt, rescan := [] } } := by
  rw [arrive_badCheck hlate h hsum]
  exact parse_no_sync hnone h.fifo

/-- The next sync of a discarded frame begins a frame of what follows it. -/
theorem arrive_badCheck_again {before after : List Byte}
    (hagain : BitVec.ofNat 8 len :: (got ++ [b]) = before ++ 0x7E :: after) (hbefore : 0x7E ∉ before) :
    s.arrive l b true =
      (s.setLink l { (s.link l).checkFailed s.clock with parser := { phase := .length, rescan := after } }).parse l := by
  rw [arrive_badCheck hlate h hsum, hagain, parse_to_sync hbefore]

end BadCheck

end Sys2Proof.Machine
end

section
/-! PROOF. One character in every state of the parser, and the bytes of a request's envelope (R157 to R162, R168, R179). -/

namespace Sys2Proof.Machine

/-- How long a zero has been under way when its character comes with a zero stop bit (R158, log 20). -/
theorem zeroPeriods_eq (rate : LineRate) (b : Byte) :
    zeroPeriods rate b =
      match rate with
      | .baud115200 => (if b = 0 then 19 else 15 - 2 * b.toNat.log2) * 1875 / 16
      | .baud460800 => (if b = 0 then 19 else 15 - 2 * b.toNat.log2) * 1875 / 64 := by
  rw [zeroPeriods, zeroHalfBits_eq]
  cases rate <;> rfl

/-- Settles O30: the character's clause in each state of the parser, after the time before it. -/
theorem oneCharacterArrives : Obligations.OneCharacterArrives := by
  intro s l wait b u x up heard halfBits edge late free
  have hclock : u.clock = s.clock + wait := State.clock_elapse wait s
  have heard_eq : heard = (u.link l).arrived u.clock := by rw [hclock]; rfl
  have parser : (u.link l).parser = x.parser := State.parser_link_elapse _ s l
  have fifo : (u.link l).fifo = x.fifo := State.fifo_link_elapse _ s l
  have errors : (u.link l).errors = x.errors := State.errors_link_elapse _ s l
  have replies : (u.link l).replies = x.replies := State.replies_link_elapse _ s l
  have query : (u.link l).query = x.query := State.query_link_elapse _ s l
  have rate : (u.link l).rate = x.rate := State.rate_link_elapse _ s l
  have last : (u.link l).lastArrival = x.lastArrival := State.lastArrival_link_elapse _ s l
  have edge_eq : edge = u.clock - zeroPeriods (u.link l).rate b := by
    rw [hclock, rate]
    exact congrArg (s.clock + wait - ·) (zeroPeriods_eq x.rate b).symm
  have idle (ph : Phase) : (u.link l).IdleIn ph ↔ x.parser.phase = ph ∧ free := by
    rw [LinkState.idleIn_iff, parser, fifo]
  have late_iff : (u.link l).isLate u.clock = true ↔ late := by rw [isLate_iff, rate, last, hclock]
  have heardIn_eq (ph : Phase) : (u.link l).heardIn u.clock ph = { heard with parser := { phase := ph, rescan := [] } } := by
    rw [heard_eq]
    rfl
  have in_phase (ph : Phase) : u.heardIn l ph = u.setLink l { heard with parser := { phase := ph, rescan := [] } } :=
    congrArg (u.setLink l) (heardIn_eq ph)
  have run (stop : Bool) {t : State} (h : u.arrive l b stop = t) : exec (.arrival l wait b stop) s = .next t :=
    congrArg Host.Outcome.next h
  have in_time (h : ¬ late) : (u.link l).isLate u.clock = false := Bool.eq_false_iff.mpr (late_iff.not.mpr h)
  have of_quiet (h : x.quiet = true) : (u.link l).IdleIn .hunt := (idle .hunt).mpr (LinkState.idleIn_iff.mp (quiet_iff.mp h))
  have framing {ph : Phase} (h : (u.link l).IdleIn ph) (hopen : ph.Open) :
      exec (.arrival l wait b false) s =
        .next (u.setLink l
          { heard with
            zero := .framed edge, parser := { phase := .hunt, rescan := [] }
            errors := { x.errors with framing := up x.errors.framing } }) := by
    refine run false ?_
    rw [arrive_framingError h hopen, heardIn_eq, ← edge_eq, errors]
    rfl
  refine ⟨fun hquiet => ?hunt, fun hquiet => ?huntFraming, fun body hph hfull => ?held, fun hfree hlate hph => ?length,
    fun len got sum hfree hlate hph => ?body, fun len got sum hfree hlate hph hsum => ?goodCheck,
    fun len got sum hfree hlate hph hsum => ?badCheck, fun hfree hlate hph => ?late, fun hfree hph => ?framing⟩
  case hunt =>
    refine run true ?_
    rw [arrive_hunt (of_quiet hquiet), in_phase]
  case huntFraming =>
    rw [framing (of_quiet hquiet) nofun]
    have hunting : heard.parser = { phase := .hunt, rescan := [] } := by
      rw [heard_eq]
      exact (of_quiet hquiet).parser
    rw [← hunting]
  case held =>
    have phase : (u.link l).parser.phase = .complete body := parser ▸ hph
    have full : 4 ≤ (u.link l).replies.length := replies ▸ hfull
    refine ⟨fun mark hmark hroom => run true ?_, fun hlevel => run true ?_, run false ?_⟩
    · have mark_eq : (u.link l).isLate u.clock = mark := Bool.eq_iff_iff.mpr (late_iff.trans hmark.symm)
      rw [arrive_behind_held_room phase full (fifo ▸ hroom), mark_eq, fifo, heard_eq]
    · rw [arrive_behind_held_overrun phase full (fifo ▸ hlevel), errors, fifo, heard_eq]
      rfl
    · rw [arrive_behind_held_framingError phase full, ← edge_eq, errors, fifo, heard_eq]
      rfl
  case length =>
    have h := (idle .length).mpr ⟨hph, hfree⟩
    refine run true ?_
    split
    · next hlen => rw [arrive_length (in_time hlate) h hlen, in_phase]
    · next hlen =>
      rw [arrive_badLength (in_time hlate) h hlen, heardIn_eq, errors]
      rfl
  case body =>
    refine run true ?_
    rw [arrive_body (in_time hlate) ((idle _).mpr ⟨hph, hfree⟩), in_phase]
  case goodCheck =>
    have h := (idle _).mpr ⟨hph, hfree⟩
    refine ⟨fun kind tag f hgot hroom hquery => run true ?_, fun hfull => run true ?_⟩
    · rw [arrive_goodCheck_taken (in_time hlate) h hsum (replies ▸ hroom) (query ▸ hquery), in_phase, hgot]
      rfl
    · rw [arrive_goodCheck_held (in_time hlate) h hsum (replies ▸ hfull), in_phase]
  case badCheck =>
    have h := (idle _).mpr ⟨hph, hfree⟩
    have failed_eq : (u.link l).checkFailed u.clock =
        { heard with errors := { x.errors with badCheck := up x.errors.badCheck } } := by
      rw [LinkState.checkFailed, errors, heard_eq]
      rfl
    refine ⟨fun hnone => run true ?_, fun before after hagain hbefore => run true ?_⟩
    · rw [arrive_badCheck_lost (in_time hlate) h hsum hnone, failed_eq]
    · rw [arrive_badCheck_again (in_time hlate) h hsum hagain hbefore, failed_eq]
  case late =>
    refine run true ?_
    rw [arrive_late (late_iff.mpr hlate) ((idle _).mpr ⟨rfl, hfree⟩) hph, heardIn_eq, errors]
    rfl
  case framing => exact framing ((idle _).mpr ⟨rfl, hfree⟩) (Phase.open_of_inFrame hph)

/-! ## The bytes of an envelope (R159, R179) -/

/-- The characters of a line, back to back, arrive one after another. -/
theorem execAll_arrivals (l : Link) (bytes : List Byte) (s : State) :
    execAll (arrivals l bytes) s = some (bytes.foldl (fun t b => t.arrive l b true) s) := by
  induction bytes generalizing s with
  | nil => rfl
  | cons b bytes ih =>
    have first : exec (.arrival l 0 b true) s = .next (s.arrive l b true) := by
      simp only [exec, execArrival, State.elapse_zero]
    rw [arrivals, List.map_cons, execAll, first]
    exact ih _

section Envelope
variable {s : State} {l : Link}

/-- A character that comes at the moment of another one is not late. -/
theorem isLate_heardIn (ph : Phase) : ((s.heardIn l ph).link l).isLate (s.heardIn l ph).clock = false := by
  rw [State.link_heardIn, Bool.eq_false_iff, Ne, isLate_iff]
  rintro ⟨last, hlast, hgap⟩
  obtain rfl : s.clock = last := Option.some.inj hlast
  rw [State.heardIn, State.clock_setLink] at hgap
  exact absurd hgap (Nat.not_lt.mpr (Nat.le_add_right _ _))

variable (hfifo : (s.link l).fifo = [])
include hfifo

theorem idleIn_heardIn (ph : Phase) : ((s.heardIn l ph).link l).IdleIn ph := by
  rw [State.link_heardIn]
  exact ⟨rfl, hfifo⟩

/-- The bytes of a body are all stored and added up, and the last one leads to CHECK (R159). -/
theorem arrive_bodyBytes {len : Nat} {bytes : List Byte} (hne : bytes ≠ []) (got : List Byte) (sum : Byte)
    (hlen : got.length + bytes.length = len) :
    bytes.foldl (fun t b => t.arrive l b true) (s.heardIn l (.body len got sum)) =
      s.heardIn l (.check len (got ++ bytes) (bytes.foldl (· + ·) sum)) := by
  induction bytes generalizing got sum with
  | nil => exact absurd rfl hne
  | cons b bytes ih =>
    rw [List.foldl_cons, arrive_body (isLate_heardIn _) (idleIn_heardIn hfifo _), State.heardIn_heardIn]
    rw [List.length_cons] at hlen
    cases bytes with
    | nil =>
      rw [if_neg (by simp only [List.length_nil] at hlen; omega)]
      rfl
    | cons c bytes =>
      rw [List.length_cons] at hlen
      have longer : (got ++ [b]).length + (c :: bytes).length = len := by
        rw [List.length_append, List.length_singleton, List.length_cons]
        omega
      rw [if_pos (by omega), ih (List.cons_ne_nil c bytes) _ _ longer, List.append_assoc]
      rfl

end Envelope

/-- The sum of a body and its length, which the check byte completes to zero (R159). -/
def bodySum (body : List Byte) : Byte := body.foldl (· + ·) (BitVec.ofNat 8 body.length)

theorem envelope_eq (body : List Byte) :
    envelope body = 0x7E :: BitVec.ofNat 8 body.length :: (body ++ [-bodySum body]) := rfl

/-- Sync, length and body bring the parser to CHECK with the body and its sum. -/
theorem arrive_envelope {s : State} {l : Link} (idle : (s.link l).IdleIn .hunt) {body : List Byte}
    (hbody : 2 ≤ body.length ∧ body.length ≤ 128) :
    (envelope body).foldl (fun t b => t.arrive l b true) s =
      (s.heardIn l (.check body.length body (bodySum body))).arrive l (-bodySum body) true := by
  have hlen : (BitVec.ofNat 8 body.length).toNat = body.length := by
    rw [BitVec.toNat_ofNat]
    exact Nat.mod_eq_of_lt (by omega)
  have sync : s.arrive l 0x7E true = s.heardIn l .length := arrive_hunt idle
  have counted : (s.heardIn l .length).arrive l (BitVec.ofNat 8 body.length) true =
      s.heardIn l (.body body.length [] (BitVec.ofNat 8 body.length)) := by
    rw [arrive_length (isLate_heardIn _) (idleIn_heardIn idle.fifo _) (by omega), State.heardIn_heardIn, hlen]
  have nonempty : body ≠ [] := List.ne_nil_of_length_pos (by omega)
  rw [envelope_eq, List.foldl_cons, List.foldl_cons, sync, counted, List.foldl_append,
    arrive_bodyBytes idle.fifo nonempty [] _ (Nat.zero_add _)]
  rfl

/-- The check byte of a body completes its frame, as the command of the frame does (R159, R162). -/
theorem arrive_check {s : State} {l : Link} (hlaw : (s.link l).Lawful) (hquiet : (s.link l).quiet = true) (kind tag : Byte)
    (f : List Byte) (len : Nat) (sum : Byte) :
    (s.heardIn l (.check len (kind :: tag :: f) sum)).arrive l (-sum) true = s.complete l kind tag f := by
  have idle := quiet_iff.mp hquiet
  have checking := idleIn_heardIn (s := s) (l := l) idle.fifo (.check len (kind :: tag :: f) sum)
  have zero : sum + -sum = 0 := by simp
  cases hroom : (s.link l).replyRoom with
  | true =>
    have arrived : (s.link l).heardIn s.clock .hunt = (s.link l).arrived s.clock := by
      rw [LinkState.heardIn, ← idle.parser]
      rfl
    rw [arrive_goodCheck_taken (isLate_heardIn _) checking zero, State.heardIn_heardIn,
      complete_ready s l kind tag f hquiet hroom, State.heardIn, arrived]
    · rfl
    · rw [State.link_heardIn]
      exact of_decide_eq_true hroom
    · rw [State.link_heardIn]
      exact hlaw.not_answered hroom
  | false =>
    rw [arrive_goodCheck_held (isLate_heardIn _) checking zero, State.heardIn_heardIn,
      complete_full s l kind tag f hquiet hroom, idle.parser]
    · rfl
    · rw [State.link_heardIn]
      exact Nat.not_lt.mp (of_decide_eq_false hroom)

/-- Settles O31: the envelope completes its frame, as the command of the frame does. -/
theorem envelopeBytesAreTheRequest : Obligations.EnvelopeBytesAreTheRequest := by
  intro l tag f s t hlaw hquiet hf
  have bytes (kind : Byte) : execAll (arrivals l (envelope (kind :: tag :: f))) s = some (s.complete l kind tag f) := by
    have fits : 2 ≤ (kind :: tag :: f).length ∧ (kind :: tag :: f).length ≤ 128 := by
      simp only [List.length_cons]
      omega
    rw [execAll_arrivals, arrive_envelope (quiet_iff.mp hquiet) fits, arrive_check hlaw hquiet]
  refine ⟨fun k h => ?_, fun kind _ h => ?_⟩
  · rw [exec_requestCommand] at h
    cases h
    exact bytes k.code
  · cases h
    exact bytes kind

end Sys2Proof.Machine
end

section
/-! PROOF. Gaps, breaks and the ends of transmissions (R155 to R158, R161, R162, R166, R168, R170). -/

namespace Sys2Proof.Machine

/-! ## The gap (R161) -/

/-- A frame in assembly with no byte left to take is abandoned when its gap is over. -/
theorem settleGap_abandons {s : State} {l : Link} {ph : Phase} (h : (s.link l).IdleIn ph) (hph : ph.inFrame = true)
    (hgap : s.gapPassed l = true) :
    s.settleGap l =
      s.setLink l
        { s.link l with
          parser := { phase := .hunt, rescan := [] }
          errors := { (s.link l).errors with timeout := errorUp (s.link l).errors.timeout } } := by
  have abandoned : (s.link l).abandonForGap =
      { s.link l with
        parser := { phase := .hunt, rescan := [] }
        errors := { (s.link l).errors with timeout := errorUp (s.link l).errors.timeout } } := by
    simp only [LinkState.abandonForGap, LinkState.setPhase, h.parser]
  rw [← abandoned]
  simp [State.settleGap, h.parser, h.fifo, hph, hgap]

/-- Settles O33: the rest of the gap passes, after which it is over. -/
theorem interByteTimeoutAbandonsTheFrame : Obligations.InterByteTimeoutAbandonsTheFrame := by
  intro s l last hph hrescan hfifo hlast u
  have idle : (u.link l).IdleIn (s.link l).parser.phase := (LinkState.idleIn_iff.mpr ⟨rfl, hrescan, hfifo⟩).elapse _
  have errors : (u.link l).errors = (s.link l).errors := State.errors_link_elapse _ s l
  have arrival : (u.link l).lastArrival = some last := (State.lastArrival_link_elapse _ s l).trans hlast
  have rate : (u.link l).rate = (s.link l).rate := State.rate_link_elapse _ s l
  have passed : u.gapPassed l = true := by
    refine (gapPassed_iff u l).mpr ⟨last, arrival, ?_⟩
    rw [rate, State.clock_elapse]
    omega
  have run : exec (.interByteTimeout l) s = .next (u.settleGap l) := by
    simp only [exec, execInterByteTimeout, hph, if_true, State.toGapEnd, hlast]
    rfl
  rw [run, settleGap_abandons idle hph passed, errors]
  rfl

/-! ## What the parser leaves of its link (R157 to R162, R168, R170) -/

/-- The parser lets no time pass, and leaves the link's rate, the zero of its line and its count of breaks. -/
structure ParserRun (l : Link) (s t : State) : Prop where
  clock : t.clock = s.clock
  rate : (t.link l).rate = (s.link l).rate
  zero : (t.link l).zero = (s.link l).zero
  breaks : (t.link l).errors.breaks = (s.link l).errors.breaks

/-- The work on one byte or cut reaches FIFO, parser and the counts of bad checks, lengths and timeouts. -/
structure LinkState.ByteTaken (x y : LinkState) : Prop where
  rate : y.rate = x.rate
  zero : y.zero = x.zero
  breaks : y.errors.breaks = x.errors.breaks

theorem byteTaken_huntByte (x : LinkState) (b : Byte) : x.ByteTaken (x.huntByte b) := by
  unfold LinkState.huntByte
  split <;> exact ⟨rfl, rfl, rfl⟩

theorem byteTaken_takeByte (x : LinkState) (b : Byte) (late : Bool) : x.ByteTaken (x.takeByte b late) := by
  unfold LinkState.takeByte
  split
  · obtain ⟨rate, zero, breaks⟩ := byteTaken_huntByte x.abandonForGap b
    exact ⟨rate, zero, breaks⟩
  · split
    · exact byteTaken_huntByte x b
    · unfold LinkState.lengthByte
      split <;> exact ⟨rfl, rfl, rfl⟩
    · unfold LinkState.bodyByte
      split <;> exact ⟨rfl, rfl, rfl⟩
    · unfold LinkState.checkByte
      split <;> exact ⟨rfl, rfl, rfl⟩
    · exact ⟨rfl, rfl, rfl⟩

theorem byteTaken_takeNext {x y : LinkState} (h : x.takeNext = some y) : x.ByteTaken y := by
  unfold LinkState.takeNext at h
  split at h
  · cases h
    obtain ⟨rate, zero, breaks⟩ := byteTaken_takeByte { x with parser := { x.parser with rescan := _ } } _ false
    exact ⟨rate, zero, breaks⟩
  · cases h
    obtain ⟨rate, zero, breaks⟩ := byteTaken_takeByte { x with fifo := _ } _ _
    exact ⟨rate, zero, breaks⟩
  · cases h
    unfold LinkState.takeCut
    split <;> exact ⟨rfl, rfl, rfl⟩
  · cases h

namespace ParserRun

variable {l : Link} {s t u : State}

theorem refl (l : Link) (s : State) : ParserRun l s s := ⟨rfl, rfl, rfl, rfl⟩

theorem trans (h : ParserRun l s t) (k : ParserRun l t u) : ParserRun l s u :=
  ⟨k.clock.trans h.clock, k.rate.trans h.rate, k.zero.trans h.zero, k.breaks.trans h.breaks⟩

theorem setLink (s : State) {x : LinkState} (h : (s.link l).ByteTaken x) : ParserRun l s (s.setLink l x) := by
  refine ⟨State.clock_setLink s l x, ?_, ?_, ?_⟩
  all_goals rw [State.link_setLink_self]
  · exact h.rate
  · exact h.zero
  · exact h.breaks

theorem ofTaken (h : Taken l s t) : ParserRun l s t :=
  ⟨h.clock, h.receiver.rate, h.receiver.zero, congrArg ErrorCounts.breaks h.receiver.errors⟩

theorem parseOnce (h : s.parseOnce l = some t) : ParserRun l s t := by
  obtain ⟨-, y, hy, rfl⟩ | ⟨body, -, rfl⟩ := parseOnce_cases h
  · exact setLink s (byteTaken_takeNext hy)
  · exact (setLink s (x := (s.link l).setPhase .hunt) ⟨rfl, rfl, rfl⟩).trans (ofTaken (Taken.takeBody body))

theorem parseFor (n : Nat) (s : State) : ParserRun l s (State.parseFor l n s) := by
  induction n generalizing s with
  | zero => exact refl l s
  | succ n ih =>
    cases hs : s.parseOnce l with
    | none =>
      rw [parseFor_at_rest _ hs]
      exact refl l s
    | some t =>
      rw [parseFor_succ n hs]
      exact (parseOnce hs).trans (ih t)

theorem settleGap (s : State) : ParserRun l s (s.settleGap l) := by
  unfold State.settleGap
  simp only
  split
  · exact setLink s ⟨rfl, rfl, rfl⟩
  · exact refl l s

theorem parse (s : State) (l : Link) : ParserRun l s (s.parse l) := (parseFor _ s).trans (settleGap _)

end ParserRun

/-- A character with a zero stop bit lets no time pass, marks the zero of its line, and leaves rate and count of breaks (R158). -/
theorem arrive_framed (s : State) (l : Link) (b : Byte) :
    let t := s.arrive l b false
    t.clock = s.clock ∧ (t.link l).rate = (s.link l).rate ∧
      (t.link l).zero = .framed (s.clock - zeroPeriods (s.link l).rate b) ∧
      (t.link l).errors.breaks = (s.link l).errors.breaks := by
  obtain ⟨clock, rate, zero, breaks⟩ := ParserRun.parse (s.setLink l ((s.link l).receiveFramingError s.clock b)) l
  rw [State.link_setLink_self] at rate zero breaks
  exact ⟨clock.trans (State.clock_setLink s l _), rate, zero, breaks⟩

/-! ## Breaks (R158, R170) -/

/-- The part after a break on a link: it is counted, the link has its power-on values but for rate and counts, and its holds are released. -/
theorem breakLine_eq (s : State) (l : Link) :
    s.breakLine l =
      { s.setLink l
          { LinkState.powerOn (s.link l).rate with
            zero := .broken
            txLeft := if (s.link l).txLeft = 0 then 0 else ((s.link l).txLeft - 1) % charUnits (s.link l).rate + 1
            errors := { (s.link l).errors with breaks := errorUp (s.link l).errors.breaks } } with
        holds := s.holds.map fun h => if h.holder = some l then { holder := none, ms := 0 } else h } := by
  cases l <;> rfl

/-- BREAK where no zero is under way: its character comes first, and then the rest of the 25 ms passes. -/
theorem execLineBreak_of_not_held {s : State} {l : Link} (h : (s.link l).zero.held s.clock = false) :
    let toStop := zeroPeriods (s.link l).rate 0
    let u := (s.elapse toStop).arrive l 0 false
    execLineBreak l s = .next ((u.elapse (675000 - toStop)).breakLine l) ∧ u.clock = s.clock + toStop ∧
      (u.link l).zero = .framed s.clock ∧ (u.link l).rate = (s.link l).rate ∧
      (u.link l).errors.breaks = (s.link l).errors.breaks := by
  intro toStop u
  obtain ⟨clock, rate, zero, breaks⟩ := arrive_framed (s.elapse toStop) l 0
  have rate_elapse := State.rate_link_elapse toStop s l
  have breaks_elapse := congrArg ErrorCounts.breaks (State.errors_link_elapse toStop s l)
  rw [State.clock_elapse] at clock
  rw [State.clock_elapse, rate_elapse, Nat.add_sub_cancel] at zero
  have rest : u.toBreak l = 675000 - toStop := by
    simp only [State.toBreak, u, zero, clock, Config.breakPeriods]
    omega
  refine ⟨?_, clock, zero, rate.trans rate_elapse, breaks.trans breaks_elapse⟩
  rw [← rest, execLineBreak, holdZero_of_not_held s l h]

/-- Settles O34: the zero held, or the one that falls now, and the break after the time that is left. -/
theorem breakResetsTheLink : Obligations.BreakResetsTheLink := by
  intro s l x up toStop broken
  have breaks_eq (v : State) (n : Nat) (hrate : (v.link l).rate = x.rate)
      (hbreaks : (v.link l).errors.breaks = x.errors.breaks) : (v.elapse n).breakLine l = broken (v.elapse n) := by
    rw [breakLine_eq, State.rate_link_elapse, State.errors_link_elapse, hrate, hbreaks, ← State.errors_link_elapse n v l]
    rfl
  refine ⟨fun edge hzero hclock => ?held, fun hover => ?falls⟩
  case held =>
    rw [← breaks_eq s _ rfl rfl]
    exact execLineBreak_of_held s l edge hzero hclock
  case falls =>
    have notHeld : (s.link l).zero.held s.clock = false := by
      cases hzero : (s.link l).zero with
      | none | broken => rfl
      | framed edge =>
        rw [held_framed]
        exact decide_eq_false (Nat.not_le.mpr (hover edge hzero))
    have toStop_eq : zeroPeriods (s.link l).rate 0 = toStop := zeroPeriods_zero _
    obtain ⟨run, clock, zero, rate, breaks⟩ := execLineBreak_of_not_held notHeld
    rw [toStop_eq] at run clock zero rate breaks
    refine ⟨(s.elapse toStop).arrive l 0 false, rfl, ?_, clock, zero, fun hquiet => ?_⟩
    · rw [← breaks_eq _ _ rate breaks]
      exact run
    · rw [arrive_framingError ((quiet_iff.mp hquiet).elapse toStop) nofun, State.link_setLink_self, State.errors_link_elapse]
      rfl

/-! ## The end of a transmission (R156, R162, R166) -/

/-- TRANSMISSION_END: what is left of the head frame passes, the frame leaves, and the parser runs (log 18). -/
theorem exec_transmissionEnd {s : State} {l : Link} {body : List Byte} {rest : List (List Byte)}
    (h : (s.link l).replies = body :: rest) :
    let behind := (rest.map fun b => (b.length + 3) * charUnits (s.link l).rate).sum
    exec (.transmissionEnd l) s = .next ((s.elapse (((s.link l).txLeft - behind + 15) / 16)).endTransmission l) := by
  simp only [exec, execTransmissionEnd, State.toTransmissionEnd, LinkState.headLeft, h, reduceCtorEq, if_false]
  rfl

/-- Settles O35: the link at the end of its head frame, and the run of the parser after it. -/
theorem transmissionEndSendsTheNextFrame : Obligations.TransmissionEndSendsTheNextFrame := by
  intro s l body rest hreplies char behind u sent
  have run : exec (.transmissionEnd l) s = .next (u.endTransmission l) := exec_transmissionEnd hreplies
  have replies : (u.link l).replies = body :: rest := (State.replies_link_elapse _ s l).trans hreplies
  have query : (u.link l).query = (s.link l).query := State.query_link_elapse _ s l
  have rate : (u.link l).rate = (s.link l).rate := State.rate_link_elapse _ s l
  have idle_sent {ph : Phase} (hph : (s.link l).parser.phase = ph) (hrescan : (s.link l).parser.rescan = [])
      (hfifo : (s.link l).fifo = []) : (u.link l).IdleIn ph := (LinkState.idleIn_iff.mpr ⟨hph, hrescan, hfifo⟩).elapse _
  have answered (r : List Byte) (hr : (s.link l).query = .answered r) : (u.link l).endFrame =
      { u.link l with replies := rest ++ [r], txLeft := (u.link l).txLeft + (r.length + 3) * char, query := .empty } := by
    have char_eq : char = charUnits (u.link l).rate := by rw [rate]
    rw [endFrame_of_answered _ r (query.trans hr), replies, char_eq]
    rfl
  have unanswered (hq : ∀ r, (s.link l).query ≠ .answered r) : (u.link l).endFrame = { u.link l with replies := rest } := by
    rw [endFrame_of_not_answered _ (fun r => query ▸ hq r), replies]
    rfl
  have sent_eq : (u.link l).endFrame = sent := by
    cases hq : (s.link l).query with
    | answered r => rw [answered r hq]; simp only [sent, hq]
    | empty | waiting tag q => rw [unanswered (by rw [hq]; exact nofun)]; simp only [sent, hq]
  have ended {y : LinkState} (hy : (u.link l).endFrame = y) :
      exec (.transmissionEnd l) s = .next ((u.setLink l y).parse l) := by
    rw [run, State.endTransmission, State.modLink_eq, hy]
  refine ⟨ended sent_eq, State.txLeft_link_elapse _ s l, fun hrescan hfifo =>
    ⟨fun kind tag f hph hq hlen => ?held, fun hph hq => ?hunt, fun r hr hph => ?result⟩⟩
  case held =>
    have idle := idle_sent hph hrescan hfifo
    rw [ended (unanswered hq), parse_takes (body := kind :: tag :: f), State.link_setLink_self, State.setLink_setLink]
    · rfl
    · rw [State.link_setLink_self]
      exact ⟨idle.parser, idle.fifo⟩
    · refine canTake_of_room ?_ ?_
      · rw [State.link_setLink_self, hlen]
        decide
      · rw [State.link_setLink_self]
        exact query ▸ hq
  case hunt =>
    have idle := idle_sent hph hrescan hfifo
    rw [ended (unanswered hq), parse_idle (ph := .hunt) ?_ nofun (.inl rfl)]
    rw [State.link_setLink_self]
    exact ⟨idle.parser, idle.fifo⟩
  case result =>
    rw [ended (answered r hr)]
    obtain hph | ⟨held, hph, hlen⟩ := hph
    · have idle := idle_sent hph hrescan hfifo
      rw [parse_idle (ph := .hunt) ?_ nofun (.inl rfl)]
      rw [State.link_setLink_self]
      exact ⟨idle.parser, idle.fifo⟩
    · rw [parse_held (body := held)]
      · rw [State.link_setLink_self]
        exact (congrArg Parser.phase (State.parser_link_elapse _ s l)).trans hph
      · rw [State.link_setLink_self]
        show 4 ≤ (rest ++ [r]).length
        rw [List.length_append, hlen]
        exact Nat.le_refl 4

end Sys2Proof.Machine
end

section
/-! PROOF. An edit accepted, IDENTIFY, a frame of no kind, and a frame held behind a full reply queue (R162 to R164, R167, R178, R179). -/

namespace Sys2Proof.Machine

/-- An edit that passes its checks goes to the tail of a queue with room, and is acknowledged (R164). -/
theorem takeEditRequest_accepted {s : State} {l : Link} (tag : Byte) {k : EditKind} {f : List Byte} {e : Edit}
    (he : readEdit k f = .ok e) (hroom : (s.link l).edits.length < 8) :
    s.takeEditRequest l tag k f =
      s.setLink l ({ s.link l with edits := (s.link l).edits ++ [e] }.enterReply (ackBody tag k.code)) := by
  simp only [State.takeEditRequest, he]
  refine (if_pos hroom).trans ?_
  rw [State.ack, reply_eq, State.link_modLink_self, State.modLink_eq, State.setLink_setLink]

/-- Settles O4: the accepted edit on a link whose frame has just arrived. -/
theorem editRequestIsQueuedAndAcknowledged : Obligations.EditRequestIsQueuedAndAcknowledged := by
  intro k l tag f s e hs hlen he hroom
  rw [exec_edit_ready hs tag k hlen, takeEditRequest_accepted tag he (by rw [link_heard]; exact hroom), link_heard,
    State.setLink_setLink]
  rfl

/-- Settles O7: IDENTITY, on a link whose frame has just arrived. -/
theorem identifyIsAnswered : Obligations.IdentifyIsAnswered := by
  intro l tag s hs
  have run := exec_request_ready .identify tag hs (f := []) rfl
  rw [State.takeKind, State.takeIdentify, reply_heard, State.identityBody, State.rank_setLink, link_heard] at run
  exact run

/-- A byte that is no request code names no kind (R178, Table 11-1). -/
theorem requestKind_of_not_code {kind : Byte} (h : isRequestCode kind = false) : requestKind kind = none := by
  revert kind
  decide

/-- Settles O12: a frame of no kind is refused in the event that completes it. -/
theorem unknownKindIsRefused : Obligations.UnknownKindIsRefused := by
  intro l kind tag f s hs hkind
  obtain ⟨hquiet, hroom⟩ := hs
  have run : exec (.unknownKind l kind tag f) s = .next (s.complete l kind tag f) := rfl
  rw [run, complete_ready s l kind tag f hquiet (decide_eq_true hroom),
    takeFrame_unknown _ _ _ _ _ (requestKind_of_not_code hkind), nak_heard]
  rfl

/-- Settles O13: a frame that completes behind four replies. -/
theorem fullReplyQueueHoldsTheFrame : Obligations.FullReplyQueueHoldsTheFrame := by
  intro k l tag f s hquiet hfull
  have full : (s.link l).replyRoom = false := decide_eq_false (Nat.not_lt.mpr hfull)
  rw [exec_requestCommand, complete_full s l _ tag f hquiet full, (quiet_iff.mp hquiet).parser]
  rfl

end Sys2Proof.Machine
end

section
/-! PROOF. What a latch writes, when an attention line is low, and SET_EVENTS on a ready link (R172, R174, R175). -/

namespace Sys2Proof.Machine

/-! ## Latches and the attention line (R172, R175) -/

/-- The line is driven low exactly while a latch is set and enabled (R175). -/
theorem attention_iff (e : EventState) : e.attention = true ↔ ∃ k, e.latches.get k = true ∧ e.enables.get k = true := by
  simp only [EventState.attention, List.any_eq_true, List.mem_finRange, true_and, Bool.and_eq_true]

/-- A raise adds its index, where it has one, to the set of its own kind (R172). -/
theorem member_sets_latch (e : EventState) (k : EventKind) (index : Option Nat) (j : Fin 12) (n : Fin 16) :
    ((e.latch k index).sets.get j).getLsbD n.val =
      ((e.sets.get j).getLsbD n.val || (decide (j = k.ix) && decide (index = some n.val))) := by
  by_cases hj : j = k.ix
  · subst hj
    cases index with
    | none => simp [EventState.latch]
    | some m =>
      rw [member_latch k e n.isLt m]
      simp [eq_comm (a := m)]
  · rw [sets_latch_other k e hj, decide_eq_false hj, Bool.false_and, Bool.or_false]

/-! ## The edge modes a body names (R174, Table 11-4) -/

theorem lossModeOf_of_le {b : Byte} (h : b.toNat ≤ 1) : lossModeOf b.toNat = some (if b = 0 then .any else .lossOnly) := by
  obtain rfl | rfl : b = 0 ∨ b = 1 := by bv_omega
  · rfl
  · rfl

theorem startModeOf_of_le {b : Byte} (h : b.toNat ≤ 1) : startModeOf b.toNat = some (if b = 0 then .any else .startOnly) := by
  obtain rfl | rfl : b = 0 ∨ b = 1 := by bv_omega
  · rfl
  · rfl

theorem le_one_of_lossModeOf {v : Nat} {m : LossMode} (h : lossModeOf v = some m) : v ≤ 1 := by
  rcases v with _ | _ | v
  · exact Nat.zero_le 1
  · exact Nat.le_refl 1
  · cases h

theorem le_one_of_startModeOf {v : Nat} {m : StartMode} (h : startModeOf v = some m) : v ≤ 1 := by
  rcases v with _ | _ | v
  · exact Nat.zero_le 1
  · exact Nat.le_refl 1
  · cases h

/-! ## What SET_EVENTS writes (R174) -/

/-- Three codes that name modes are written with the enables; latches and index sets stand. -/
theorem configure_of_le (e : EventState) (hi lo : Byte) {i c a : Byte} (hinput : i.toNat ≤ 1) (hcheck : c.toNat ≤ 1)
    (hannounce : a.toNat ≤ 1) :
    e.configure [hi, lo, i, c, a] =
      some
        { e with
          enables := Table.tab 12 fun k => (hi.toNat * 256 + lo.toNat).testBit k.val
          inputMode := if i = 0 then .any else .lossOnly
          checkMode := if c = 0 then .any else .lossOnly
          announceMode := if a = 0 then .any else .startOnly } := by
  have input : lossModeOf (u8 [hi, lo, i, c, a] 2) = _ := lossModeOf_of_le hinput
  have check : lossModeOf (u8 [hi, lo, i, c, a] 3) = _ := lossModeOf_of_le hcheck
  have announce : startModeOf (u8 [hi, lo, i, c, a] 4) = _ := startModeOf_of_le hannounce
  rw [EventState.configure, input, check, announce]
  rfl

/-- A code that names no mode spoils the whole body. -/
theorem configure_eq_none {e : EventState} {f : List Byte} (h : ¬ (u8 f 2 ≤ 1 ∧ u8 f 3 ≤ 1 ∧ u8 f 4 ≤ 1)) :
    e.configure f = none := by
  unfold EventState.configure
  split
  · next input check announce =>
    exact absurd ⟨le_one_of_lossModeOf input, le_one_of_lossModeOf check, le_one_of_startModeOf announce⟩ h
  · rfl

section Taken
variable {s : State} {l : Link} (tag : Byte) {f : List Byte}

theorem takeSetEvents_accepted {e : EventState} (h : (s.link l).events.configure f = some e) :
    s.takeSetEvents l tag f =
      s.setLink l ({ s.link l with events := e }.enterReply (ackBody tag RequestKind.setEvents.code)) := by
  simp only [State.takeSetEvents, h, State.ack, reply_eq, State.modLink_eq, State.link_setLink_self, State.setLink_setLink]

theorem takeSetEvents_refused (h : (s.link l).events.configure f = none) :
    s.takeSetEvents l tag f = s.nak l tag RequestKind.setEvents.code .badValue := by
  simp only [State.takeSetEvents, h]

end Taken

/-- Settles O9: latches and attention line by the lemmas above, and SET_EVENTS on a link whose frame has just arrived. -/
theorem setEventsWritesEnablesAndModes : Obligations.SetEventsWritesEnablesAndModes := by
  refine ⟨fun s l => attention_iff (s.link l).events, by decide, fun e k index => ?latch,
    fun l tag hi lo i c a s hs => ?request⟩
  case latch => exact ⟨rfl, latches_latch k e index, member_sets_latch e k index⟩
  case request =>
    have run := exec_request_ready .setEvents tag hs (f := [hi, lo, i, c, a]) rfl
    refine ⟨fun ⟨hinput, hcheck, hannounce⟩ => ?written, fun hbad => ?refused⟩
    case written =>
      have modes := configure_of_le ((s.heard l).link l).events hi lo hinput hcheck hannounce
      rw [State.takeKind, takeSetEvents_accepted tag modes, link_heard, State.setLink_setLink] at run
      exact run
    case refused =>
      have noMode : ((s.heard l).link l).events.configure [hi, lo, i, c, a] = none := configure_eq_none hbad
      rw [State.takeKind, takeSetEvents_refused tag noMode, nak_heard] at run
      exact run

end Sys2Proof.Machine
end
